-- ==== Sys2Proof/Word.lean ====
section
/-! DEFINITION. The widths the GJ316's fields have, and the sixteen-place table indexed by station number. -/

namespace Sys2Proof

/-- A byte of the control port or of the configuration image. -/
abbrev Byte := BitVec 8

/-- A station number, 0..15. -/
abbrev Station := Fin 16

/-- A member set as the bus carries it: bit n stands for station n (R19, R199). -/
abbrev StationSet := BitVec 16

/-- A cycle sequence, counted modulo 256. -/
abbrev Seq := BitVec 8

/-- The number of an allocation plan, counted modulo 256. -/
abbrev Epoch := BitVec 8

/-- One value for each station number (the roster, the deviation table). -/
abbrev PerStation (α : Type) := Vector α 16

end Sys2Proof
end

