-- ==== Sys2Proof/Config.lean ====
section
/-! DEFINITION. The configuration in force: the fields of an accepted image (R176), fixed until the next reset.
The spec leaves no value open, so there is no free value here (log 21). -/

namespace Sys2Proof

/-- A logic level of a pin. -/
inductive Level where
  | low
  | high
  deriving DecidableEq, Repr

/-- The action a fault line takes when it qualifies ASSERTED (R159). -/
inductive LineMode where
  | off
  | cut
  | hold
  | latch
  deriving DecidableEq, Repr

/-- The two fault lines. -/
inductive FaultLine where
  | flta
  | fltb
  deriving DecidableEq, Repr

/-- The settings of one fault line: image byte 14 or 15 (R176). `sample` and `count` are decoded, `asserted` is the
pin level that stands for asserted. -/
structure LineSettings where
  mode : LineMode
  sample : Nat
  count : Nat
  groupTrip : Bool
  asserted : Level
  deriving DecidableEq, Repr

/-- The fields of the image, decoded (R176). -/
structure Image where
  station : Station
  tickDiv : Nat
  bitTime : Nat
  p : Nat
  latency : Nat
  /-- OUTPOL: 1 when active is low. -/
  activeLow : Bool
  autoJoin : Bool
  beaconInt : Nat
  honourTrip : Bool
  corrMax : Nat
  lockWin : Nat
  planLead : Nat
  maxMembers : Nat
  dta : Nat
  dtb : Nat
  otbMin : Nat
  walkStep : Nat
  flta : LineSettings
  fltb : LineSettings
  cutLimit : Nat
  initTrim : Int
  alertMask : BitVec 16
  deriving DecidableEq, Repr

/-- The settings of a fault line. -/
def Image.line (c : Image) : FaultLine → LineSettings
  | .flta => c.flta
  | .fltb => c.fltb

end Sys2Proof
end

