-- ==== Sys2Proof/Syntax.lean ====
section
/-! DEFINITION. The commands: one constructor for each row of spec/opcode_table.json, with the operands its rule
names, and the frames of the phase bus that some of them carry (R19). -/

namespace Sys2Proof

/-! ### Frames of the phase bus (R19) -/

/-- KIND of a frame, in the order of its codes 0..3, which is also the order of launch priority (R19, R25). -/
inductive FrameKind where
  | fault
  | leave
  | plan
  | beacon
  deriving DecidableEq, Repr

/-- ORIGIN of a FAULT frame and of a latch (R19, R166). -/
inductive Origin where
  | flta
  | fltb
  | escalate
  | group
  deriving DecidableEq, Repr

/-- REASON of a LEAVE frame (R113). -/
inductive LeaveReason where
  | requested
  | resync
  | clash
  deriving DecidableEq, Repr

/-- MSTATE of a BEACON: the membership states that beacon (R21). -/
inductive Reported where
  | joining
  | active
  | draining
  deriving DecidableEq, Repr

/-- The body of a BEACON (R19). -/
structure BeaconBody where
  seq : Seq
  stamp : BitVec 12
  mstate : Reported
  lock : Bool
  cepoch : Epoch
  ppend : Bool
  pepoch : Epoch
  lowest : BitVec 4
  count : BitVec 4
  cyclen : BitVec 12
  deriving DecidableEq, Repr

/-- The four fields of a plan: the body of a PLAN frame and the pending record (R19, R116). -/
structure PlanRecord where
  epoch : Epoch
  issuer : Station
  members : StationSet
  effSeq : Seq
  deriving DecidableEq, Repr

/-- The body of a FAULT (R19). -/
structure FaultBody where
  origin : Origin
  gtrip : Bool
  seq : Seq
  deriving DecidableEq, Repr

/-- The body of a LEAVE (R19). -/
structure LeaveBody where
  seq : Seq
  reason : LeaveReason
  deriving DecidableEq, Repr

/-- The body of a frame, by KIND. -/
inductive FrameBody where
  | fault (b : FaultBody)
  | leave (b : LeaveBody)
  | plan (b : PlanRecord)
  | beacon (b : BeaconBody)
  deriving DecidableEq, Repr

/-- A frame: SRC and body. SOF, KIND, CRC and EOF follow from them (R19, R20). -/
structure Frame where
  src : Station
  body : FrameBody
  deriving DecidableEq, Repr

/-! ### Operands -/

/-- What a failed read attempt failed on (R179): CFG_SDA still low after the ninth pulse of the bus clear, or a missing
acknowledge to one of the three address-phase bytes, with the pulses that the bus clear before it took. -/
inductive AttemptFailure where
  | stuckLow
  | noAckWriteAddress (pulses : Nat)
  | noAckWordAddress (pulses : Nat)
  | noAckReadAddress (pulses : Nat)
  deriving DecidableEq, Repr

/-- The works of one cycle boundary whose order the spec leaves open (R74, R92, R94, R96, R99, R125, R150). The first
three belong to CYCLE_BOUNDARY; the others have rows of their own and are taken inside the boundary only where the
sender names them. -/
inductive BoundaryWork where
  | alignment
  | beaconSchedule
  | planWork
  | silence
  | apply
  | listenEnd
  | joinEnd
  | drainEnd
  | phasePoint
  deriving DecidableEq, Repr

/-- The bit of the frame in flight at whose sample a yield falls, and the bits of the other frame that follow it, for a
line that does not carry them yet (R28). -/
structure YieldSample where
  bit : Nat
  rest : List Bool
  deriving DecidableEq, Repr

/-- The order in which a BEACON and the resync it brings are taken at their common instant (R81). -/
inductive BeaconOrder where
  | beaconFirst
  | resyncFirst
  deriving DecidableEq, Repr

/-- A BEACON as it is delivered: its body, and its order against a resync at the same instant (R44, R81). -/
structure DeliveredBeacon where
  body : BeaconBody
  order : BeaconOrder
  deriving DecidableEq, Repr

/-- A piece of a control port transaction (R185): whether CP_CS# falls at its start, the levels of CP_SDI at the rising
edges of CP_SCK in it (byte 0 included, each byte most significant bit first), whether one more falling edge of CP_SCK
comes after them, and whether CP_CS# rises at its end. -/
structure Xfer where
  opens : Bool
  bits : List Bool
  falls : Bool
  closes : Bool
  deriving DecidableEq, Repr

/-- The commands: one constructor for each row of the table, in the table's order. -/
inductive Instr where
  /-- POWER_ON (R181). -/
  | powerOn
  /-- RESET_PIN (R181). -/
  | resetPin
  /-- LOAD_START (R182). -/
  | loadStart
  /-- ATTEMPT_FAILED (R179). -/
  | attemptFailed (why : AttemptFailure)
  /-- RETRY_WAIT_END (R179). -/
  | retryWaitEnd
  /-- IMAGE_CHECK (R178): the pulses of the bus clear and the bytes read. -/
  | imageCheck (pulses : Nat) (image : List Byte)
  /-- CYCLE_BOUNDARY (R3): the works the sender wants taken first, in this order. -/
  | cycleBoundary (order : List BoundaryWork)
  /-- TRIM_WINDOW_END (R77). -/
  | trimWindowEnd
  /-- SILENCE_LIMIT (R53) of entry j. -/
  | silenceLimit (j : Station)
  /-- BEACON_POINT (R36). -/
  | beaconPoint
  /-- PLAN_ISSUE (R126). -/
  | planIssue
  /-- PLAN_APPLY (R134). -/
  | planApply
  /-- LISTEN_WINDOW_END (R92). -/
  | listenWindowEnd
  /-- JOIN_WINDOW_END (R93). -/
  | joinWindowEnd
  /-- DRAIN_WINDOW_END (R99). -/
  | drainWindowEnd
  /-- LAUNCH (R25). -/
  | launch
  /-- YIELD (R28) at this sample of the frame in flight. -/
  | yieldAt (sample : YieldSample)
  /-- LINE_FAULT (R30) at this bit of the frame in flight. -/
  | lineFault (bit : Nat)
  /-- FRAME_COMPLETE (R26). -/
  | frameComplete
  /-- ENTER_HUNT (R31). -/
  | enterHunt
  /-- BEACON (R44) delivered. -/
  | beacon (src : Station) (b : DeliveredBeacon)
  /-- PLAN (R130) delivered. -/
  | plan (src : Station) (body : PlanRecord)
  /-- FAULT (R169) delivered. -/
  | fault (src : Station) (body : FaultBody)
  /-- LEAVE_FRAME (R52) delivered. -/
  | leaveFrame (src : Station) (body : LeaveBody)
  /-- PHASE_POINT (R139). -/
  | phasePoint
  /-- HELD_PHASE_POINT (R143). -/
  | heldPhasePoint
  /-- INTERVAL_END (R142). -/
  | intervalEnd
  /-- MARK_END (R153). -/
  | markEnd
  /-- LINE_SAMPLE (R157) of a line whose pin reads this level. -/
  | lineSample (line : FaultLine) (pin : Level)
  /-- STATUS_READ (R191). -/
  | statusRead (x : Xfer)
  /-- ALIGN_READ (R192). -/
  | alignRead (x : Xfer)
  /-- COUNTERS_READ (R193). -/
  | countersRead (x : Xfer)
  /-- COUNTERS_READ_WITH_CLEAR (R193). -/
  | countersReadWithClear (x : Xfer)
  /-- ROSTER_READ (R194). -/
  | rosterRead (x : Xfer)
  /-- EVENTS_READ_AND_CLEAR (R197). -/
  | eventsReadAndClear (x : Xfer)
  /-- DEMAND_WRITE (R189). -/
  | demandWrite (x : Xfer)
  /-- ALERT_MASK_WRITE (R190). -/
  | alertMaskWrite (x : Xfer)
  /-- UNDEFINED_REQUEST (R185): a code of no row, or COMMAND with a command byte of no command (R195). -/
  | undefinedRequest (code : Byte) (x : Xfer)
  /-- JOIN (R89). -/
  | join (x : Xfer)
  /-- LEAVE (R97). -/
  | leave (x : Xfer)
  /-- CLEAR_FAULT (R171). -/
  | clearFault (x : Xfer)
  /-- RESTART (R181). -/
  | restart (x : Xfer)
  /-- SOF_EDGE (R31): another station pulls the line low and sends these bits from now on, one a bit time; with no bits,
  the edge of what the line carries already. -/
  | sofEdge (bits : List Bool := [])
  /-- START_BIT_GLITCH (R31). -/
  | startBitGlitch
  /-- RECEIVED_FRAME_ERROR (R33): the bits sampled from the SOF to the failing check, true for recessive. -/
  | receivedFrameError (bits : List Bool)
  /-- CLASH_FRAME (R35): a frame of the own number. -/
  | clashFrame (body : FrameBody)
  deriving DecidableEq, Repr

end Sys2Proof
end

