-- ==== Sys2Proof/Machine/Frames.lean ====
section
/-! DEFINITION. The bits of a phase bus frame (R19), its CRC (R20), the receiver's checks on the bits it samples (R32,
R33), and the bits of bytes. A bit is true when recessive (1) and false when dominant (0) (R16). -/

namespace Sys2Proof.Machine

/-- The low `w` bits of `n`, most significant first (R19). -/
def natBits : Nat → Nat → List Bool
  | 0, _ => []
  | w + 1, n => n.testBit w :: natBits w n

/-- The number a run of bits spells, most significant first. -/
def bitsNat (bits : List Bool) : Nat :=
  bits.foldl (fun acc b => 2 * acc + b.toNat) 0

/-- The bits of bytes in transmission order, most significant first (R177, R185). -/
def byteBits (bytes : List Byte) : List Bool :=
  bytes.flatMap fun b => natBits 8 b.toNat

/-- The complete bytes of a run of bits, most significant bit first (R185). -/
def bytesOf : List Bool → List Byte
  | b7 :: b6 :: b5 :: b4 :: b3 :: b2 :: b1 :: b0 :: rest =>
    BitVec.ofNat 8 (bitsNat [b7, b6, b5, b4, b3, b2, b1, b0]) :: bytesOf rest
  | _ => []

/-- Two runs of bits agree as far as both go. -/
def agrees : List Bool → List Bool → Bool
  | a :: as, b :: bs => a == b && agrees as bs
  | [], _ => true
  | _ :: _, [] => true

/-- One step of a CRC register of width `w`: feedback is the top bit exclusive-ORed with the covered bit (R20, R177). -/
def crcStep {w : Nat} (poly reg : BitVec w) (bit : Bool) : BitVec w :=
  if (reg.msb ^^ bit) then (reg <<< 1) ^^^ poly else reg <<< 1

/-- The frame CRC over the covered bits: preset FFh, polynomial terms 2Fh (R20). -/
def crc8 (bits : List Bool) : BitVec 8 :=
  bits.foldl (crcStep 0x2F#8) 0xFF#8

/-- KIND codes (R19). -/
def kindCode : FrameKind → Nat
  | .fault => 0
  | .leave => 1
  | .plan => 2
  | .beacon => 3

/-- The kind a two-bit KIND names; all four codes are defined (R19). -/
def kindOfCode : Nat → FrameKind
  | 0 => .fault
  | 1 => .leave
  | 2 => .plan
  | _ => .beacon

/-- The number of bits F of a frame of each kind (R19, R32). -/
def kindBits : FrameKind → Nat
  | .fault => 28
  | .leave => 27
  | .plan => 53
  | .beacon => 77

/-- The kind of a frame body. -/
def bodyKind : FrameBody → FrameKind
  | .fault _ => .fault
  | .leave _ => .leave
  | .plan _ => .plan
  | .beacon _ => .beacon

/-- ORIGIN codes (R19). -/
def originCode : Origin → Nat
  | .flta => 0
  | .fltb => 1
  | .escalate => 2
  | .group => 3

/-- The origin a two-bit code names (R19). -/
def originOfCode : Nat → Origin
  | 0 => .flta
  | 1 => .fltb
  | 2 => .escalate
  | _ => .group

/-- REASON codes (R19). -/
def reasonCode : LeaveReason → Nat
  | .requested => 0
  | .resync => 1
  | .clash => 2

/-- The reason a two-bit code names; 3 is illegal (R19, R33). -/
def reasonOfCode : Nat → Option LeaveReason
  | 0 => some .requested
  | 1 => some .resync
  | 2 => some .clash
  | _ => none

/-- MSTATE codes (R19). -/
def reportedCode : Reported → Nat
  | .joining => 0
  | .active => 1
  | .draining => 2

/-- The state a two-bit MSTATE names; 3 is illegal (R19, R33). -/
def reportedOfCode : Nat → Option Reported
  | 0 => some .joining
  | 1 => some .active
  | 2 => some .draining
  | _ => none

/-- The body fields in the order of the table of R19. -/
def bodyBits : FrameBody → List Bool
  | .fault b => natBits 2 (originCode b.origin) ++ natBits 1 b.gtrip.toNat ++ natBits 8 b.seq.toNat
  | .leave b => natBits 8 b.seq.toNat ++ natBits 2 (reasonCode b.reason)
  | .plan b =>
    natBits 8 b.epoch.toNat ++ natBits 4 b.issuer.val ++ natBits 16 b.members.toNat ++ natBits 8 b.effSeq.toNat
  | .beacon b =>
    natBits 8 b.seq.toNat ++ natBits 12 b.stamp.toNat ++ natBits 2 (reportedCode b.mstate) ++
      natBits 1 b.lock.toNat ++ natBits 8 b.cepoch.toNat ++ natBits 1 b.ppend.toNat ++ natBits 8 b.pepoch.toNat ++
      natBits 4 b.lowest.toNat ++ natBits 4 b.count.toNat ++ natBits 12 b.cyclen.toNat

/-- The bits the CRC covers: KIND, SRC and body (R20). -/
def coveredBits (f : Frame) : List Bool :=
  natBits 2 (kindCode (bodyKind f.body)) ++ natBits 4 f.src.val ++ bodyBits f.body

/-- All bits of a frame: SOF, covered bits, CRC, EOF (R19). -/
def frameBits (f : Frame) : List Bool :=
  false :: (coveredBits f ++ natBits 8 (crc8 (coveredBits f)).toNat ++ [true, true])

/-- The number of bits of a frame. -/
def frameLength (f : Frame) : Nat :=
  kindBits (bodyKind f.body)

/-- The field of `len` bits at a position of the table of R19. -/
def field (bits : List Bool) (pos len : Nat) : Nat :=
  bitsNat ((bits.drop pos).take len)

/-- The station number that four bits spell. -/
def stationOfNat (n : Nat) : Station :=
  Fin.ofNat 16 n

/-- KIND as sampled. -/
def sampledKind (bits : List Bool) : FrameKind :=
  kindOfCode (field bits 1 2)

/-- The body read from the positions of the table of R19; none where MSTATE or REASON is 3 (R33). -/
def sampledBody (bits : List Bool) : Option FrameBody :=
  match sampledKind bits with
  | .fault =>
    some (.fault ⟨originOfCode (field bits 7 2), field bits 9 1 == 1, BitVec.ofNat 8 (field bits 10 8)⟩)
  | .leave =>
    (reasonOfCode (field bits 15 2)).map fun r => .leave ⟨BitVec.ofNat 8 (field bits 7 8), r⟩
  | .plan =>
    some (.plan ⟨BitVec.ofNat 8 (field bits 7 8), stationOfNat (field bits 15 4),
      BitVec.ofNat 16 (field bits 19 16), BitVec.ofNat 8 (field bits 35 8)⟩)
  | .beacon =>
    (reportedOfCode (field bits 27 2)).map fun m =>
      .beacon ⟨BitVec.ofNat 8 (field bits 7 8), BitVec.ofNat 12 (field bits 15 12), m, field bits 29 1 == 1,
        BitVec.ofNat 8 (field bits 30 8), field bits 38 1 == 1, BitVec.ofNat 8 (field bits 39 8),
        BitVec.ofNat 4 (field bits 47 4), BitVec.ofNat 4 (field bits 51 4), BitVec.ofNat 12 (field bits 55 12)⟩

/-- What the receiver makes of the bits sampled so far: a valid frame; a frame error found at the sample of this bit,
or at the frame's end when the position is F; or no decision yet (R32, R33). -/
inductive Verdict where
  | valid (f : Frame)
  | error (pos : Nat)
  | incomplete
  deriving DecidableEq, Repr

/-- The receiver's checks, in the order in which their samples are taken (R33). -/
def judge (bits : List Bool) : Verdict :=
  let n := kindBits (sampledKind bits)
  if bits.length < n - 2 then .incomplete
  else if (crc8 ((bits.drop 1).take (n - 11))).toNat ≠ field bits (n - 10) 8 then .error (n - 3)
  else if bits.length < n - 1 then .incomplete
  else if field bits (n - 2) 1 = 0 then .error (n - 2)
  else if bits.length < n then .incomplete
  else if field bits (n - 1) 1 = 0 then .error (n - 1)
  else match sampledBody bits with
    | none => .error n
    | some body => .valid ⟨stationOfNat (field bits 3 4), body⟩

end Sys2Proof.Machine
end

