-- ==== Sys2Proof/WellFormed.lean ====
section
/-! DEFINITION. Which commands are well formed: the checks on operands that their types do not make. -/

namespace Sys2Proof.WellFormed

open Sys2Proof.Machine

/-- An image is read whole: 32 bytes, after at most nine bus-clear pulses (R179). -/
def imageCheck (pulses : Nat) (image : List Byte) : Bool :=
  pulses ≤ 9 && image.length == 32

/-- A bus clear that leads to the address phase took at most nine pulses (R179). -/
def attemptFailed : AttemptFailure → Bool
  | .stuckLow => true
  | .noAckWriteAddress pulses => pulses ≤ 9
  | .noAckWordAddress pulses => pulses ≤ 9
  | .noAckReadAddress pulses => pulses ≤ 9

/-- A yield falls in a bit after the SOF of a frame of at most 77 bits, and the other frame ends by then too (R19,
R28). -/
def yieldSample (y : YieldSample) : Bool :=
  1 ≤ y.bit && y.bit ≤ 76 && y.bit + y.rest.length ≤ 76

/-- What another station sends from a SOF edge on begins with a dominant bit and is at most a frame (R19). -/
def edgeBits (bits : List Bool) : Bool :=
  bits.head? != some true && bits.length ≤ 77

/-- A line fault falls in any bit, the SOF included (R30). -/
def lineFaultBit (bit : Nat) : Bool :=
  bit ≤ 76

/-- The bits of a frame error begin with the SOF, show an error, and end where it is found (R33). -/
def errorBits (bits : List Bool) : Bool :=
  match judge bits with
  | .error pos => bits.head? == some false && bits.length == min (pos + 1) (kindBits (sampledKind bits))
  | .valid _ => false
  | .incomplete => false

/-- The request codes of the table of R188. -/
def requestCodes : List Byte :=
  [0x01#8, 0x02#8, 0x03#8, 0x83#8, 0x04#8, 0x05#8, 0x11#8, 0x12#8, 0x21#8]

/-- The command bytes of R195. -/
def commandBytes : List Byte :=
  [0x01#8, 0x02#8, 0x03#8, 0x04#8]

/-- A request of no row: a code outside the table of R188, or COMMAND whose command byte, if the piece opens and
completes it, is no command (R195). -/
def undefinedRequest (code : Byte) (x : Xfer) : Bool :=
  !requestCodes.contains code || (code == 0x21#8 && (!x.opens || match bytesOf (x.bits.drop 8) with
    | [] => true
    | b :: _ => !commandBytes.contains b))

/-- A piece of a transaction with this header: it does something, and one that opens begins with the header's bits as
far as it goes (R185, R188). -/
def piece (header : List Byte) (x : Xfer) : Bool :=
  (x.opens || x.closes || x.falls || !x.bits.isEmpty) && (!x.opens || agrees (byteBits header) x.bits)

end Sys2Proof.WellFormed

namespace Sys2Proof

/-- The well-formed commands. -/
def Instr.wellFormed : Instr → Bool
  | .powerOn => true
  | .resetPin => true
  | .loadStart => true
  | .attemptFailed why => WellFormed.attemptFailed why
  | .retryWaitEnd => true
  | .imageCheck pulses image => WellFormed.imageCheck pulses image
  | .cycleBoundary order => order.Nodup
  | .trimWindowEnd => true
  | .silenceLimit _ => true
  | .beaconPoint => true
  | .planIssue => true
  | .planApply => true
  | .listenWindowEnd => true
  | .joinWindowEnd => true
  | .drainWindowEnd => true
  | .launch => true
  | .yieldAt sample => WellFormed.yieldSample sample
  | .lineFault bit => WellFormed.lineFaultBit bit
  | .frameComplete => true
  | .enterHunt => true
  | .beacon _ _ => true
  | .plan _ _ => true
  | .fault _ _ => true
  | .leaveFrame _ _ => true
  | .phasePoint => true
  | .heldPhasePoint => true
  | .intervalEnd => true
  | .markEnd => true
  | .lineSample _ _ => true
  | .statusRead x => WellFormed.piece [0x01#8] x
  | .alignRead x => WellFormed.piece [0x02#8] x
  | .countersRead x => WellFormed.piece [0x03#8] x
  | .countersReadWithClear x => WellFormed.piece [0x83#8] x
  | .rosterRead x => WellFormed.piece [0x04#8] x
  | .eventsReadAndClear x => WellFormed.piece [0x05#8] x
  | .demandWrite x => WellFormed.piece [0x11#8] x
  | .alertMaskWrite x => WellFormed.piece [0x12#8] x
  | .undefinedRequest code x => WellFormed.piece [code] x && WellFormed.undefinedRequest code x
  | .join x => WellFormed.piece [0x21#8, 0x01#8] x
  | .leave x => WellFormed.piece [0x21#8, 0x02#8] x
  | .clearFault x => WellFormed.piece [0x21#8, 0x03#8] x
  | .restart x => WellFormed.piece [0x21#8, 0x04#8] x
  | .sofEdge bits => WellFormed.edgeBits bits
  | .startBitGlitch => true
  | .receivedFrameError bits => WellFormed.errorBits bits
  | .clashFrame _ => true

end Sys2Proof
end

