-- ==== Sys2Proof/Decode.lean ====
section
/-! DEFINITION. The table gives no row any bits (R1 to R200 describe events, requests and frames, not words), so no
word spells a command. The bits of the frames that some commands carry are in Machine/Frames.lean, the request codes
of the control port in Machine/PortOps.lean. -/

namespace Sys2Proof

/-- The command a word spells by the table's bits: none, since no row of the table has bits. -/
def decodeTableWord (_nbits _w : Nat) : Option Instr :=
  none

end Sys2Proof
end

