-- ==== Sys2Proof/Machine/State.lean ====
section
/-! DEFINITION. The state of the station: every piece of state the ten blocks' tables give, the input pins, and the
queue of waiting commands. Plain data. Reset values are those of the tables (log 11 and log 13 name the others). -/

namespace Sys2Proof.Machine

/-! ### Cycle Timer (R1 to R15) -/

/-- Run state of the timer and of the Fault Monitor (R1, R157). -/
inductive RunState where
  | stopped
  | running
  deriving DecidableEq, Repr

/-- The (sequence, counter) pair a reader takes as one value (R8). -/
structure TimePair where
  seq : Seq
  counter : Nat
  deriving DecidableEq, Repr

/-- The timer state table. `prevLength` is the length of the cycle before the one in progress (implied by R139);
`atEnd` says that the tick which ends the cycle has come and its boundary is still to be taken (implied by R3, R12). -/
structure Timer where
  run : RunState
  divider : Nat
  counter : Nat
  atEnd : Bool
  seq : Seq
  length : Nat
  prevLength : Nat
  corr : Int
  trimTick : Int
  trim : Int
  acc : Int
  capture : Option TimePair
  captureAge : Nat
  deriving DecidableEq, Repr

/-! ### Phase Bus Link (R16 to R40) -/

/-- Transmitter states (R25). -/
inductive TxState where
  | off
  | idle
  | defer
  | sending
  deriving DecidableEq, Repr

/-- Receiver states (R31). -/
inductive RxState where
  | off
  | settle
  | hunt
  | receiving
  deriving DecidableEq, Repr

/-- A queued request with its retry count (R23). -/
structure Slot (α : Type) where
  content : α
  retry : Nat
  deriving DecidableEq, Repr

/-- What a FAULT request carries (R22). -/
structure FaultRequest where
  origin : Origin
  gtrip : Bool
  deriving DecidableEq, Repr

/-- The frame in flight, and whether the request it was launched for still holds its slot (R26, R27). -/
structure InFlight where
  frame : Frame
  holdsSlot : Bool
  deriving DecidableEq, Repr

/-- The link state table. `beaconDone` says that this cycle's BEACON has been requested (implied by R36). -/
structure Link where
  qFault : Option (Slot FaultRequest)
  qLeave : Option (Slot LeaveReason)
  qPlan : Option (Slot PlanRecord)
  qBeacon : Option (Slot Unit)
  backoff : Bool
  tx : TxState
  inFlight : Option InFlight
  rx : RxState
  rxBits : List Bool
  idle : Nat
  beaconPoint : Option Nat
  beaconDone : Bool
  framesTx : BitVec 16
  framesRx : BitVec 16
  rxErr : BitVec 16
  yields : BitVec 16
  txDrop : BitVec 16
  deriving DecidableEq, Repr

/-! ### Station Roster (R41 to R60) -/

/-- Presence of a roster entry (R41). -/
inductive Presence where
  | absent
  | heard
  | member
  | silent
  | departed
  | excluded
  deriving DecidableEq, Repr

/-- One roster entry (R41). Deviation-valid, the pending flag and the fault flag are whether their option holds a
value (log 22). -/
structure Entry where
  presence : Presence
  reported : Option Reported
  lock : Bool
  lastSeq : Seq
  deviation : Option Int
  silence : Nat
  epoch : Epoch
  pendEpoch : Option Epoch
  faultOrigin : Option Origin
  deriving DecidableEq, Repr

/-- An ABSENT entry with every field at its cleared value (R42). -/
def Entry.cleared : Entry where
  presence := .absent
  reported := none
  lock := false
  lastSeq := 0
  deviation := none
  silence := 0
  epoch := 0
  pendEpoch := none
  faultOrigin := none

/-! ### Alignment Unit (R61 to R83) -/

/-- Alignment states (R61). -/
inductive AlignState where
  | free
  | pulling
  | locked
  deriving DecidableEq, Repr

/-- The alignment state table. -/
structure Align where
  state : AlignState
  table : PerStation (Option Int)
  mean : Int
  lockStreak : Nat
  outlierStreak : Nat
  windowCount : Nat
  windowSum : Int
  outliers : BitVec 16
  deriving DecidableEq, Repr

/-! ### Membership Controller (R84 to R114) -/

/-- Membership states (R84). -/
inductive Membership where
  | unconfigured
  | detached
  | listen
  | joining
  | active
  | draining
  | faulted
  deriving DecidableEq, Repr

/-- The membership state table. A window is its count, or none while stopped (R88). -/
structure Member where
  state : Membership
  listenWindow : Option Nat
  joinWindow : Option Nat
  drainWindow : Option Nat
  attempts : Nat
  clashHold : Bool
  deriving DecidableEq, Repr

/-! ### Plan Controller (R115 to R138, R200) -/

/-- Rank, size and phase target, present together (R115). -/
structure Place where
  rank : Nat
  size : Nat
  target : Nat
  deriving DecidableEq, Repr

/-- The plan records table. `lastIssued` is the plan the station last issued (implied by R127). -/
structure PlanCtl where
  epoch : Option Epoch
  set : Option StationSet
  place : Option Place
  pending : Option PlanRecord
  holdoff : Option Nat
  repeats : Nat
  lastIssued : Option PlanRecord
  relay : Bool
  issued : BitVec 16
  conflict : BitVec 16
  late : BitVec 16
  deriving DecidableEq, Repr

/-! ### Gate Waveform Generator (R139 to R156) -/

/-- Kind of an output cycle (R141). -/
inductive CycleKind where
  | live
  | dark
  deriving DecidableEq, Repr

/-- Interval of a live output cycle (R142). -/
inductive Interval where
  | dta
  | ota
  | dtb
  | otb
  deriving DecidableEq, Repr

/-- The generator state table. `unbroken` says that the station has been ACTIVE without a break since the phase point
that began the live cycle in progress (R151). -/
structure Gen where
  phi : Nat
  dueSeq : Seq
  held : Nat
  kind : Option CycleKind
  interval : Option Interval
  age : Nat
  hold : Bool
  unbroken : Bool
  staged : BitVec 12
  otaEff : Nat
  ceiling : Nat
  markCount : Nat
  deriving DecidableEq, Repr

/-! ### Fault Monitor (R157 to R175) -/

/-- The per-line state of the monitor, with the level the pin was last sampled at. -/
structure LineState where
  phase : Nat
  runCount : Nat
  asserted : Bool
  holdForce : Bool
  cutMark : Bool
  pin : Level
  deriving DecidableEq, Repr

/-- One entry of the cut history: the CUT lines of its cycle's mark; not cut when neither (R164). -/
structure CutEntry where
  flta : Bool
  fltb : Bool
  deriving DecidableEq, Repr

/-- The Fault Monitor state table. The history is oldest first. `emptied` is the history that a latch emptied at the
present instant, by which an entry that joins at that instant is still judged (R167, log 28); it is empty at any other
time. -/
structure Monitor where
  run : RunState
  a : LineState
  b : LineState
  cutForce : Bool
  latchForce : Bool
  history : List CutEntry
  emptied : List CutEntry
  latch : Option Origin
  cutCycles : BitVec 16
  latches : BitVec 16
  deriving DecidableEq, Repr

/-! ### Configuration Loader (R176 to R184) -/

/-- Load states (R179, R182). -/
inductive LoadState where
  | held
  | reading
  | retryWait
  | checking
  | accepted
  | refused
  deriving DecidableEq, Repr

/-- Reset causes (R181). -/
inductive ResetCause where
  | power
  | pin
  | restart
  deriving DecidableEq, Repr

/-- Causes of the diagnosis record (R180). -/
inductive DiagCause where
  | none
  | noMemory
  | badCrc
  | badField
  deriving DecidableEq, Repr

/-- The diagnosis record (R180). -/
structure Diagnosis where
  cause : DiagCause
  index : Option Nat
  attempts : Nat
  deriving DecidableEq, Repr

/-- What the loader does on CFG_SCL and CFG_SDA in a read attempt (R179). -/
inductive WireEvent where
  | pulse
  | start
  | send (b : Byte)
  | read (b : Byte) (ack : Bool)
  | stop
  deriving DecidableEq, Repr

/-- The loader state table. `waited` counts REFCLK periods in RETRY_WAIT; `wire` is the latest attempt's transfer. -/
structure Loader where
  load : LoadState
  attempt : Nat
  buffer : List Byte
  config : Option Image
  diag : Diagnosis
  cause : ResetCause
  waited : Nat
  wire : List WireEvent
  deriving DecidableEq, Repr

/-! ### Control Port (R185 to R199) -/

/-- Transaction state (R185, R187): OPEN carries the number of the byte begun last. -/
inductive Txn where
  | closed
  | opened (byte : Nat)
  | ignored
  deriving DecidableEq, Repr

/-- Command results (R186, R195). -/
inductive CmdResult where
  | accepted
  | wrongState
  | faultActive
  | unconfigured
  deriving DecidableEq, Repr

/-- The control port state table. `sdi` and `sdo` are the bits taken from CP_SDI and presented on CP_SDO, oldest first,
in the open or latest transaction (implied by R185). -/
structure Port where
  txn : Txn
  request : Option Byte
  response : List Byte
  sdi : List Bool
  sdo : List Bool
  rosterPtr : Station
  flags : BitVec 16
  marks : BitVec 16
  mask : BitVec 16
  result : CmdResult
  deriving DecidableEq, Repr

/-! ### The whole station -/

/-- The state of one station, with what the other stations do to the line PB and the commands that wait, oldest first.
`line` holds the level they give PB at the present tick and at each tick to come, true for recessive; they leave it
recessive after its end (R16). -/
structure State where
  timer : Timer
  link : Link
  roster : PerStation Entry
  align : Align
  member : Member
  plan : PlanCtl
  gen : Gen
  mon : Monitor
  loader : Loader
  port : Port
  line : List Bool
  pending : List Instr
  deriving DecidableEq, Repr

/-- Nothing stops this block: no rule leaves a step without an effect (log 21). So no reason exists, and none can be
raised (safe: a stop is never used where the spec gives an effect). -/
inductive Fault where
  deriving DecidableEq, Repr

/-- Refusals. -/
inductive Refusal where
  /-- Raised by exec's arms of commands that have no meaning yet; safe. No arm raises it now. -/
  | notModelled (mnemonic : String)
  deriving DecidableEq, Repr

/-- What a command or a step answers. -/
abbrev Result := Host.Outcome State Fault Refusal

/-! ### Reset values -/

/-- "After any reset" of the timer state table (R14). -/
def Timer.reset : Timer where
  run := .stopped
  divider := 0
  counter := 0
  atEnd := false
  seq := 0
  length := 0
  prevLength := 0
  corr := 0
  trimTick := 0
  trim := 0
  acc := 0
  capture := none
  captureAge := 0

/-- "After any reset" of the link state table (R40). -/
def Link.reset : Link where
  qFault := none
  qLeave := none
  qPlan := none
  qBeacon := none
  backoff := false
  tx := .off
  inFlight := none
  rx := .off
  rxBits := []
  idle := 0
  beaconPoint := none
  beaconDone := false
  framesTx := 0
  framesRx := 0
  rxErr := 0
  yields := 0
  txDrop := 0

/-- Every entry ABSENT with the cleared values (R59). -/
def rosterReset : PerStation Entry :=
  Vector.replicate 16 Entry.cleared

/-- An empty deviation table (R70). -/
def tableReset : PerStation (Option Int) :=
  Vector.replicate 16 none

/-- "After any reset" of the alignment state table (R82). -/
def Align.reset : Align where
  state := .free
  table := tableReset
  mean := 0
  lockStreak := 0
  outlierStreak := 0
  windowCount := 0
  windowSum := 0
  outliers := 0

/-- "After any reset" of the membership state table (R85). -/
def Member.reset : Member where
  state := .unconfigured
  listenWindow := none
  joinWindow := none
  drainWindow := none
  attempts := 0
  clashHold := false

/-- "After any reset" of the plan records table (R118). -/
def PlanCtl.reset : PlanCtl where
  epoch := none
  set := none
  place := none
  pending := none
  holdoff := none
  repeats := 0
  lastIssued := none
  relay := false
  issued := 0
  conflict := 0
  late := 0

/-- "After any reset" of the generator state table (R156). -/
def Gen.reset : Gen where
  phi := 0
  dueSeq := 0
  held := 0
  kind := none
  interval := none
  age := 0
  hold := false
  unbroken := false
  staged := 0
  otaEff := 0
  ceiling := 0
  markCount := 0

/-- A line of the monitor after reset (R175); the pin keeps the level given. -/
def LineState.reset (pin : Level) : LineState where
  phase := 0
  runCount := 0
  asserted := false
  holdForce := false
  cutMark := false
  pin := pin

/-- "After any reset" of the Fault Monitor state table (R175). -/
def Monitor.reset (pinA pinB : Level) : Monitor where
  run := .stopped
  a := LineState.reset pinA
  b := LineState.reset pinB
  cutForce := false
  latchForce := false
  history := []
  emptied := []
  latch := none
  cutCycles := 0
  latches := 0

/-- "After any reset" of the loader state table, with the cause of that reset (R180, R181). -/
def Loader.reset (cause : ResetCause) : Loader where
  load := .held
  attempt := 0
  buffer := []
  config := none
  diag := ⟨.none, none, 0⟩
  cause := cause
  waited := 0
  wire := []

/-- "After any reset" of the control port state table; the transaction state is the one given (R187). -/
def Port.reset (txn : Txn) : Port where
  txn := txn
  request := none
  response := []
  sdi := []
  sdo := []
  rosterPtr := 0
  flags := 0
  marks := 0
  mask := 0
  result := .accepted

/-- The station right after power-on, still held in reset (R181, R182; log 11, log 12). -/
def State.reset : State where
  timer := Timer.reset
  link := Link.reset
  roster := rosterReset
  align := Align.reset
  member := Member.reset
  plan := PlanCtl.reset
  gen := Gen.reset
  mon := Monitor.reset .low .low
  loader := Loader.reset .power
  port := Port.reset .closed
  line := []
  pending := []

end Sys2Proof.Machine
end

