-- ==== Sys2Proof/Machine/Operands.lean ====
section
/-! DEFINITION. The quantities the rules compute from the image and from operands: lengths, thresholds, modular
comparisons, clamps, member sets, rank and target, and the tables indexed by station number. -/

namespace Sys2Proof.Machine

/-! ### Sixteen-place tables -/

/-- The table whose place j holds `f j`. -/
def tabulate {α : Type} (f : Station → α) : PerStation α :=
  #v[f 0, f 1, f 2, f 3, f 4, f 5, f 6, f 7, f 8, f 9, f 10, f 11, f 12, f 13, f 14, f 15]

/-- The table with place j replaced. -/
def putAt {α : Type} (v : PerStation α) (j : Station) (x : α) : PerStation α :=
  tabulate fun k => if k = j then x else v[k]

/-- The station numbers in ascending order. -/
def stations : List Station :=
  [0, 1, 2, 3, 4, 5, 6, 7, 8, 9, 10, 11, 12, 13, 14, 15]

/-! ### Modular comparisons (00, Conventions) -/

/-- `a` is newer than `b`: (a - b) mod 256 lies in 1..127. The same test says that a sequence `a` is in the future of
the sequence `b`. -/
def newer (a b : BitVec 8) : Bool :=
  1 ≤ (a - b).toNat && (a - b).toNat ≤ 127

/-- `a` is older than `b` when `b` is newer than `a`. -/
def older (a b : BitVec 8) : Bool :=
  newer b a

/-! ### Signed values -/

/-- A value outside lo..hi is replaced by the nearer end (R4, R73). -/
def clamp (lo hi x : Int) : Int :=
  if x < lo then lo else if hi < x then hi else x

/-- The sign of a window sum as a trim step (R77). -/
def signStep (x : Int) : Int :=
  if 0 < x then 1 else if x < 0 then -1 else 0

/-! ### Member sets -/

/-- Station j is in the set (R19: bit n for station n). -/
def inSet (m : StationSet) (j : Station) : Bool :=
  m.getLsbD j.val

/-- The set of one station. -/
def only (j : Station) : StationSet :=
  1#16 <<< j.val

/-- The set with j added. -/
def insertIn (m : StationSet) (j : Station) : StationSet :=
  m ||| only j

/-- The set with j taken out. -/
def removeFrom (m : StationSet) (j : Station) : StationSet :=
  m &&& ~~~ only j

/-- The stations of a set, ascending. -/
def membersOf (m : StationSet) : List Station :=
  stations.filter (inSet m)

/-- The number of stations in a set (R115). -/
def sizeOf (m : StationSet) : Nat :=
  (membersOf m).length

/-- The stations of the set with a lower number than j (R115). -/
def rankOf (m : StationSet) (j : Station) : Nat :=
  ((membersOf m).filter (· < j)).length

/-- The lowest station number of a set, 0 when there is none (R21). -/
def lowestOf (m : StationSet) : Station :=
  (membersOf m).headD 0

/-- Rank, size and phase target floor(k × P / n) of j in a set, when j is in it (R115, R135). -/
def placeIn (p : Nat) (m : StationSet) (j : Station) : Option Place :=
  if inSet m j then some ⟨rankOf m j, sizeOf m, rankOf m j * p / sizeOf m⟩ else none

/-! ### Quantities of the image -/

/-- Silence limit (R53) and listen window length (R88): 4 × B + 2. -/
def silenceLimit (c : Image) : Nat :=
  4 * c.beaconInt + 2

/-- Listen window length (R88). -/
def listenLength (c : Image) : Nat :=
  4 * c.beaconInt + 2

/-- Join window length (R88). -/
def joinLength (c : Image) : Nat :=
  16 * c.beaconInt + c.planLead + 8

/-- Drain window length (R88). -/
def drainLength (c : Image) : Nat :=
  4 * c.beaconInt + c.planLead + 36

/-- The holdoff's start H (R123). -/
def holdoffStart (c : Image) : Nat :=
  2 + 2 * c.station.val

/-- The joining beacon point (R36, R93). -/
def joiningPoint (c : Image) : Nat :=
  c.station.val * c.p / 16

/-- The idle count at which the bus is idle (R18). -/
def idleThreshold (c : Image) : Nat :=
  10 * c.bitTime

/-- The launch threshold (R18). -/
def launchThreshold (c : Image) (backoff : Bool) : Nat :=
  if backoff then (11 + c.station.val) * c.bitTime else 10 * c.bitTime

/-- The on-time ceiling before it is known to be 0 or more (R146). -/
def ceilingOf (p corrMax walkStep dta dtb otbMin : Nat) : Int :=
  (p : Int) - ((corrMax : Int) + 1) - walkStep - dta - dtb - otbMin

/-- The limit on c of the state in which a cycle begins (R4). -/
def corrLimit (c : Image) (m : Membership) : Int :=
  match m with
  | .active => c.corrMax
  | .unconfigured => c.p / 8
  | .detached => c.p / 8
  | .listen => c.p / 8
  | .joining => c.p / 8
  | .draining => c.p / 8
  | .faulted => c.p / 8

/-- The correction computed from a measured mean, by membership state (R73). -/
def correctionFor (c : Image) (m : Membership) (mean : Int) : Int :=
  match m with
  | .active => clamp (-(c.corrMax : Int)) c.corrMax (mean.tdiv 2)
  | .draining => clamp (-(c.corrMax : Int)) c.corrMax (mean.tdiv 2)
  | .faulted => clamp (-(c.corrMax : Int)) c.corrMax (mean.tdiv 2)
  | .joining => clamp (-((c.p / 8 : Nat) : Int)) (c.p / 8 : Nat) mean
  | .listen => clamp (-((c.p / 8 : Nat) : Int)) (c.p / 8 : Nat) mean
  | .detached => clamp (-((c.p / 8 : Nat) : Int)) (c.p / 8 : Nat) mean
  | .unconfigured => clamp (-((c.p / 8 : Nat) : Int)) (c.p / 8 : Nat) mean

/-- A membership state in which the station beacons (R36). -/
def beacons : Membership → Bool
  | .joining => true
  | .active => true
  | .draining => true
  | .unconfigured => false
  | .detached => false
  | .listen => false
  | .faulted => false

/-- ACTIVE or DRAINING: the states whose latch queues a FAULT and whose resync or clash queues a LEAVE (R106, R111,
R166). -/
def inGroup : Membership → Bool
  | .active => true
  | .draining => true
  | .unconfigured => false
  | .detached => false
  | .listen => false
  | .joining => false
  | .faulted => false

/-- The walk of R147 from φ toward the target: the signed move δ. -/
def walkMove (p walkStep phi target : Nat) : Int :=
  if phi = target then 0
  else
    let fwd := (target + p - phi) % p
    let bwd := (phi + p - target) % p
    if fwd ≤ bwd then (min walkStep fwd : Nat) else -((min walkStep bwd : Nat) : Int)

/-- The advance of the due sequence for a move: 1, or 2 on a forward crossing of counter 0, or 0 on a backward one
(R144, R147). -/
def dueAdvance (p phi : Nat) (move : Int) : Nat :=
  if (p : Int) ≤ phi + move then 2 else if (phi : Int) + move < 0 then 0 else 1

/-- The phase position after a move (R147). -/
def movedPhi (p phi : Nat) (move : Int) : Nat :=
  (((phi : Int) + move) % (p : Int)).toNat

/-- The deviation of R66. -/
def deviationOf (c : Image) (capture : TimePair) (seq : Seq) (stamp : Nat) : Int :=
  let raw : Int := (capture.seq - seq).toNat
  let ds : Int := if 128 ≤ raw then raw - 256 else raw
  ds * c.p + capture.counter - stamp - c.latency

/-- A deviation is usable when twice its magnitude is less than P (R67). -/
def usable (c : Image) (d : Int) : Bool :=
  2 * d.natAbs < c.p

/-- The values held in a deviation table. -/
def tableValues (t : PerStation (Option Int)) : List Int :=
  stations.filterMap fun j => t[j]

/-- The mean of a measured cycle, truncated toward zero (R72); 0 for an unmeasured one. -/
def tableMean (t : PerStation (Option Int)) : Int :=
  (tableValues t).sum.tdiv (tableValues t).length

end Sys2Proof.Machine
end

