-- ==== Sys2Proof/Machine/Flags.lean ====
section
/-! DEFINITION. Event flags with their reported marks (R196, R197), ALERT# (R198), the 16-bit statistics counters
(00, Counters; R38, R137, R174), and the port status byte (R186). -/

namespace Sys2Proof.Machine

/-- The sixteen events, in the order of their flag numbers (R196). -/
inductive Event where
  | joined
  | removed
  | left
  | faultLatched
  | peerFault
  | planApplied
  | lockGained
  | lockLost
  | cut
  | demandClipped
  | clash
  | resync
  | joinFailed
  | txDropped
  | rxError
  | configError
  deriving DecidableEq, Repr

/-- The flag number n of an event (R196). -/
def eventNumber : Event → Nat
  | .joined => 0
  | .removed => 1
  | .left => 2
  | .faultLatched => 3
  | .peerFault => 4
  | .planApplied => 5
  | .lockGained => 6
  | .lockLost => 7
  | .cut => 8
  | .demandClipped => 9
  | .clash => 10
  | .resync => 11
  | .joinFailed => 12
  | .txDropped => 13
  | .rxError => 14
  | .configError => 15

/-- The bit of an event in a flag word (R196). -/
def eventBit (e : Event) : BitVec 16 :=
  1#16 <<< eventNumber e

/-- Raising an event on the port: its flag is set and its reported mark cleared (R196, R197). -/
def Port.raise (p : Port) (e : Event) : Port :=
  { p with flags := p.flags ||| eventBit e, marks := p.marks &&& ~~~ eventBit e }

/-- Raising an event (00, Conventions: "Raises X"). -/
def raise (e : Event) (s : State) : State :=
  { s with port := s.port.raise e }

/-- An event's flag is set. -/
def flagSet (s : State) (e : Event) : Bool :=
  s.port.flags.getLsbD (eventNumber e)

/-- ALERT# is asserted exactly while a set flag is enabled in the mask (R198). -/
def alertAsserted (s : State) : Bool :=
  s.port.flags &&& s.port.mask != 0#16

/-- A statistics counter rises by one and stops at 65535 (R38, R137, R174). -/
def countUp (n : BitVec 16) : BitVec 16 :=
  if n = 0xFFFF#16 then n else n + 1#16

/-- Membership code of the port status byte (R186). -/
def membershipCode : Membership → Nat
  | .unconfigured => 0
  | .detached => 1
  | .listen => 2
  | .joining => 3
  | .active => 4
  | .draining => 5
  | .faulted => 6

/-- Alignment code of the port status byte (R186). -/
def alignCode : AlignState → Nat
  | .free => 0
  | .pulling => 1
  | .locked => 2

/-- Result code of the port status byte (R186). -/
def resultCode : CmdResult → Nat
  | .accepted => 0
  | .wrongState => 1
  | .faultActive => 2
  | .unconfigured => 3

/-- The port status byte (R186). -/
def statusByte (s : State) : Byte :=
  BitVec.ofNat 8 (membershipCode s.member.state + 8 * alignCode s.align.state + 32 * s.mon.latch.isSome.toNat +
    64 * resultCode s.port.result)

end Sys2Proof.Machine
end

