-- ==== Sys2Proof/Machine/Ops.lean ====
section
/-! DEFINITION. The operations that several blocks share: placing and withdrawing transmit requests (R23, R24), a
change of membership state with everything that follows from the change itself, the latch (R166), the resets (R181),
the levels of PB (R16), and the passing of one tick (R1, R3, R9, R17, R18, R142, R153, R157). -/

namespace Sys2Proof.Machine

/-- A configured station's work; an unconfigured one does none (09, Loader state). -/
def State.configured (s : State) (f : Image → State) : State :=
  match s.loader.config with
  | none => s
  | some c => f c

/-! ### The transmit queue (R23 to R27) -/

/-- At least one slot holds a request. -/
def Link.waiting (l : Link) : Bool :=
  l.qFault.isSome || l.qLeave.isSome || l.qPlan.isSome || l.qBeacon.isSome

/-- The transmitter is IDLE or DEFER by whether a request waits, unless it is OFF or SENDING (R25). -/
def Link.settleTx (l : Link) : Link :=
  match l.tx with
  | .off => l
  | .sending => l
  | .idle => { l with tx := if l.waiting then .defer else .idle }
  | .defer => { l with tx := if l.waiting then .defer else .idle }

/-- A slot's request was replaced or withdrawn: a frame in flight of that kind no longer holds it (R24, R27). -/
def Link.loseSlot (l : Link) (k : FrameKind) : Link :=
  { l with inFlight := l.inFlight.map fun f => if bodyKind f.frame.body = k then { f with holdsSlot := false } else f }

/-- A FAULT request arrives (R23). -/
def Link.requestFault (l : Link) (r : FaultRequest) : Link :=
  ({ l.loseSlot .fault with qFault := some ⟨r, 0⟩ }).settleTx

/-- A LEAVE request arrives (R23, R113). -/
def Link.requestLeave (l : Link) (r : LeaveReason) : Link :=
  ({ l.loseSlot .leave with qLeave := some ⟨r, 0⟩ }).settleTx

/-- A PLAN request arrives (R23). -/
def Link.requestPlan (l : Link) (r : PlanRecord) : Link :=
  ({ l.loseSlot .plan with qPlan := some ⟨r, 0⟩ }).settleTx

/-- A BEACON request arrives (R23). -/
def Link.requestBeacon (l : Link) : Link :=
  ({ l.loseSlot .beacon with qBeacon := some ⟨(), 0⟩ }).settleTx

/-- A waiting BEACON request is withdrawn (R24). -/
def Link.withdrawBeacon (l : Link) : Link :=
  ({ l.loseSlot .beacon with qBeacon := none }).settleTx

/-- A waiting PLAN request is withdrawn (R24). -/
def Link.withdrawPlan (l : Link) : Link :=
  ({ l.loseSlot .plan with qPlan := none }).settleTx

/-- The withdrawals on entry to a membership state (R24). -/
def Link.withdrawFor (l : Link) (m : Membership) : Link :=
  match m with
  | .detached => l.withdrawBeacon.withdrawPlan
  | .listen => l.withdrawBeacon.withdrawPlan
  | .faulted => l.withdrawBeacon
  | .unconfigured => l.withdrawBeacon
  | .joining => l
  | .active => l
  | .draining => l

/-- The link on entry to a membership state: the withdrawals of R24, and a station that enters JOINING has no beacon
point until the next boundary (R37, R91). -/
def Link.enterState (l : Link) (m : Membership) : Link :=
  if m = .joining then { l.withdrawFor m with beaconPoint := none } else l.withdrawFor m

/-! ### Change of membership state -/

/-- The controller's state on entry to a membership state: the windows of the state left stop, the one of the state
entered starts at 0, and the attempt count returns to 0 (R88, R89, R91 to R95, R97, R102, R106, R111). -/
def Member.enter (m : Member) (next : Membership) : Member :=
  { m with
    state := next
    listenWindow := if next = .listen then some 0 else none
    joinWindow := if next = .joining then some 0 else none
    drainWindow := if next = .draining then some 0 else none
    attempts := 0 }

/-- A change away from ACTIVE stops the holdoff and ends the repeats (R119). -/
def PlanCtl.leaveActive (p : PlanCtl) : PlanCtl :=
  { p with holdoff := none, repeats := 0 }

/-- A change away from ACTIVE breaks the ACTIVE period and cuts a MARK pulse (R151, R153). -/
def Gen.leaveActive (g : Gen) : Gen :=
  { g with unbroken := false, markCount := 0 }

/-- The membership state changes to one other than ACTIVE: windows, the link (R24, R37), and what leaving ACTIVE stops. -/
def moveTo (next : Membership) (s : State) : State :=
  { s with
    member := s.member.enter next
    link := s.link.enterState next
    plan := if s.member.state = .active then s.plan.leaveActive else s.plan
    gen := if s.member.state = .active then s.gen.leaveActive else s.gen }

/-- The JOIN path, by the alignment state at this instant (R89). -/
def joinPath (s : State) : State :=
  if s.align.state = .free then moveTo .listen s else moveTo .joining s

/-! ### The latch (R166 to R168) -/

/-- A second latch only raises LATCHES (R167). -/
def Monitor.secondLatch (m : Monitor) : Monitor :=
  { m with latches := countUp m.latches }

/-- The history an entry that joins at the present instant is judged by: a latch of this instant has emptied the first
part, and its second cause is found all the same (R167, log 28). -/
def Monitor.standing (m : Monitor) : List CutEntry :=
  m.emptied ++ m.history

/-- The monitor's own part of a latch: force, record, history, counter (R166, steps 1 to 4). What it empties is kept for
a second cause of the same instant (R167, log 28). -/
def Monitor.takeLatch (m : Monitor) (o : Origin) : Monitor :=
  { m with
    latchForce := true
    latch := some o
    history := []
    emptied := m.standing
    latches := countUp m.latches }

/-- A latch cause with the GTRIP its FAULT request would carry (R166, R167, R102). -/
def latch (o : Origin) (gtrip : Bool) (s : State) : State :=
  if s.mon.latch.isSome then { s with mon := s.mon.secondLatch }
  else
    let s1 := raise .faultLatched { s with mon := s.mon.takeLatch o }
    let s2 := if inGroup s.member.state then { s1 with link := s1.link.requestFault ⟨o, gtrip⟩ } else s1
    moveTo .faulted s2

/-! ### Resync (R106) -/

/-- The alignment unit on entry to FREE (R81); OUTLIER is kept. -/
def Align.toFree (a : Align) : Align :=
  { a with state := .free, table := tableReset, mean := 0, lockStreak := 0, outlierStreak := 0, windowCount := 0,
           windowSum := 0 }

/-- The plan records cleared by a resync; the counters are kept (R118). -/
def PlanCtl.clear (p : PlanCtl) : PlanCtl :=
  { p with epoch := none, set := none, place := none, pending := none, holdoff := none, repeats := 0,
           lastIssued := none, relay := false }

/-- Resync: one operation in the eight steps of R106. -/
def resync (s : State) : State :=
  let s1 := if inGroup s.member.state then { s with link := s.link.requestLeave .resync } else s
  let s2 := { s1 with roster := rosterReset, plan := s1.plan.clear }
  let s3 := if s2.align.state = .locked then raise .lockLost s2 else s2
  raise .resync (moveTo .listen { s3 with align := s3.align.toFree })

/-! ### Resets (R181, R187) -/

/-- A transaction open at a reset becomes IGNORED, and stays so until CP_CS# rises (R187). -/
def Txn.atReset : Txn → Txn
  | .closed => .closed
  | .opened _ => .ignored
  | .ignored => .ignored

/-- A reset by this cause: every block returns to its reset values. The levels of the fault lines and the waiting
commands are the outside's and stay (R181, log 11); what the other stations had on PB is over by the next acceptance
(log 7). -/
def resetBy (cause : ResetCause) (txn : Txn) (s : State) : State :=
  { State.reset with
    mon := Monitor.reset s.mon.a.pin s.mon.b.pin
    loader := Loader.reset cause
    port := Port.reset txn
    pending := s.pending }

/-! ### The line PB -/

/-- The level the own frame in flight gives the line at this age of its SOF edge: bit i stands from i × BITTIME on, and
the line is released after the last (R16, R17). -/
def Link.sends (l : Link) (c : Image) (age : Nat) : Bool :=
  match l.inFlight with
  | none => true
  | some f => (frameBits f.frame).getD (age / c.bitTime) true

/-- The station drives PB low (R16). -/
def drivesPb (s : State) : Bool :=
  match s.loader.config with
  | none => false
  | some c => !s.link.sends c s.timer.captureAge

/-- The level PB reads: recessive only while no station drives it (R16). -/
def pbRecessive (s : State) : Bool :=
  s.line.headD true && !drivesPb s

/-! ### The passing of a tick -/

/-- The timer at a tick: the counter advances, or the tick that ends the cycle has come (R1, R3). The capture age rises
at every tick from the timer's start on, also before the first capture, which R9 leaves open (log 25). -/
def Timer.tick (t : Timer) : Timer :=
  { t with
    divider := 0
    counter := if t.counter + 1 < t.length then t.counter + 1 else t.counter
    atEnd := t.length ≤ t.counter + 1
    captureAge := min (t.captureAge + 1) 65535 }

/-- The idle count at a tick that reads this level (R18). -/
def idleAfter (rx : RxState) (recessive : Bool) (idle : Nat) : Nat :=
  match rx with
  | .settle => if recessive then min (idle + 1) 832 else 0
  | .hunt => if recessive then min (idle + 1) 832 else 0
  | .receiving => 0
  | .off => 0

/-- The link at a tick of this capture age that reads this level: the idle count, and at a mid-bit tick the next of the
received bits (R17, R18, R32). -/
def Link.tick (l : Link) (c : Image) (recessive : Bool) (age : Nat) : Link :=
  { l with
    idle := idleAfter l.rx recessive l.idle
    rxBits := if l.rx = .receiving ∧ age % c.bitTime = c.bitTime / 2 then l.rxBits ++ [recessive] else l.rxBits }

/-- The generator at a tick: interval age, MARK count (R142, R153). -/
def Gen.tick (g : Gen) : Gen :=
  { g with
    age := if g.interval.isSome then min (g.age + 1) 4095 else g.age
    markCount := g.markCount - 1 }

/-- The sample phases at a tick (R157). -/
def Monitor.tick (m : Monitor) : Monitor :=
  { m with
    a := { m.a with phase := m.a.phase + 1 }
    b := { m.b with phase := m.b.phase + 1 }
    emptied := [] }

/-- A tick passes: every count of ticks moves with it, and the link reads the line (R1, R3, R16). -/
def tick (c : Image) (s : State) : State :=
  let s1 := { s with timer := s.timer.tick, line := s.line.tail, gen := s.gen.tick, mon := s.mon.tick }
  { s1 with link := s.link.tick c (pbRecessive s1) s1.timer.captureAge }

/-! ### Forces, and the output pins (log 10) -/

/-- The Fault Monitor forces the outputs inactive (R173). -/
def forced (s : State) : Bool :=
  s.mon.cutForce || s.mon.a.holdForce || s.mon.b.holdForce || s.mon.latchForce

/-- The three conditions under which the outputs may be driven active (R151). -/
def outputsAllowed (s : State) : Bool :=
  s.member.state == .active && s.gen.kind == some .live && s.gen.unbroken && !forced s

/-- An output pin: high impedance or driven (R152). -/
inductive OutPin where
  | highZ
  | driven (l : Level)
  deriving DecidableEq, Repr

/-- The level of an output that is active or not, by OUTPOL (R152). -/
def outLevel (c : Image) (active : Bool) : OutPin :=
  .driven (if active = c.activeLow then .low else .high)

/-- GA (R142, R151, R152). -/
def gaActive (s : State) : Bool :=
  outputsAllowed s && s.gen.interval == some .ota

/-- GB (R142, R151, R152). -/
def gbActive (s : State) : Bool :=
  outputsAllowed s && s.gen.interval == some .otb

/-- The pin GA. -/
def gaPin (s : State) : OutPin :=
  match s.loader.config with
  | none => .highZ
  | some c => outLevel c (gaActive s)

/-- The pin GB. -/
def gbPin (s : State) : OutPin :=
  match s.loader.config with
  | none => .highZ
  | some c => outLevel c (gbActive s)

/-- MARK is high while the MARK count is above 0 (R153). -/
def markHigh (s : State) : Bool :=
  0 < s.gen.markCount

/-- CFG_SCL and CFG_SDA are released except while an attempt is in progress (R179, R182). -/
def cfgReleased (s : State) : Bool :=
  s.loader.load != .reading

/-- CP_SDO is driven while a transaction is open (R185). In one that is IGNORED it is not driven, also after the reset
has ended and while CP_CS# is still low, which R187 leaves open (log 26). -/
def sdoDriven (s : State) : Bool :=
  match s.port.txn with
  | .opened _ => true
  | .closed => false
  | .ignored => false

end Sys2Proof.Machine
end

