-- ==== Sys2Proof/Machine/GateOps.lean ====
section
/-! DEFINITION. The phase point (R139, R143, R145, R147), the Fault Monitor's work at its notice (R161, R164, R165), the
jump on an entry to ACTIVE (R149), and the generator's part of a coarse step (R140). -/

namespace Sys2Proof.Machine

/-! ### The Fault Monitor at a phase point -/

/-- A cut entry names at least one line (R164). -/
def CutEntry.isCut (e : CutEntry) : Bool :=
  e.flta || e.fltb

/-- The cut count: the cut entries the history holds (R164). It rises also where a cut entry joins as an uncut one
leaves, which a sentence of R165 denies against R164 and the worked example; the model counts by R164 (log 29). -/
def cutCount (history : List CutEntry) : Nat :=
  (history.filter CutEntry.isCut).length

/-- An entry joins the history; when it already holds 64 the oldest leaves (R164). -/
def joinHistory (history : List CutEntry) (e : CutEntry) : List CutEntry :=
  (if 64 ≤ history.length then history.drop (history.length - 63) else history) ++ [e]

/-- The entry of the ending cycle, from its cut mark (R161). -/
def Monitor.entry (m : Monitor) : CutEntry :=
  ⟨m.a.cutMark, m.b.cutMark⟩

/-- GTRIP of an escalation: that of any line the escalating entry names (R168). -/
def escalationTrip (c : Image) (e : CutEntry) : Bool :=
  (e.flta && c.flta.groupTrip) || (e.fltb && c.fltb.groupTrip)

/-- Step 1 of R161: the ending cycle's entry joins, and the escalation test of R165 is made on the count of R164, where
the two rules differ on a cut entry that joins as an uncut one leaves (log 29). At the instant of a latch
the test is that of the history before the latch, so both causes are counted in either order (R167, log 28). While
latched, every entry at which the test holds is a second latch, whichever cycle it ends: a dark one and one cut before
the latch too, where R167 names only a live cycle that was cut after it (log 30). The entry of a cut cycle that joins
right after an accepted CLEAR FAULT of its instant is tested as well, and at CUTLIMIT 1 it latches anew, where R172 has
the history hold that entry (log 33). -/
def enterCycle (c : Image) (s : State) : State :=
  let e := s.mon.entry
  let s1 := { s with mon := { s.mon with history := joinHistory s.mon.history e } }
  if c.cutLimit ≠ 0 ∧ c.cutLimit ≤ cutCount (joinHistory s.mon.standing e) then
    latch .escalate (escalationTrip c e) s1
  else s1

/-- A line in MODE CUT is ASSERTED. -/
def LineState.cutting (l : LineState) (set : LineSettings) : Bool :=
  set.mode == .cut && l.asserted

/-- A line after steps 2 and 3 of R161: the hold force stays while ASSERTED; a live cycle's mark takes a CUT line that
is ASSERTED. -/
def LineState.atPhasePoint (l : LineState) (set : LineSettings) (live : Bool) : LineState :=
  { l with holdForce := l.holdForce && l.asserted, cutMark := live && l.cutting set }

/-- Steps 2 and 3 of R161: forces end, and a cycle that begins with a CUT line ASSERTED is cut from the start. The
history that a latch of this instant emptied has served. -/
def endForces (c : Image) (live : Bool) (s : State) : State :=
  let cut := s.mon.a.cutting c.flta || s.mon.b.cutting c.fltb
  let m := { s.mon with
    a := s.mon.a.atPhasePoint c.flta live
    b := s.mon.b.atPhasePoint c.fltb live
    cutForce := cut
    emptied := [] }
  if cut && live then raise .cut { s with mon := { m with cutCycles := countUp m.cutCycles } }
  else { s with mon := m }

/-- The monitor's phase-point work, in the order of R161. -/
def notice (c : Image) (ended live : Bool) (s : State) : State :=
  endForces c live (if ended then enterCycle c s else s)

/-! ### The phase point -/

/-- The counter value in the cycle in progress at which the phase point falls due, or none when it falls in a later
cycle (R139). A due cycle already past puts it at the rest of φ beyond that cycle's length, or at once. -/
def phaseOffset (s : State) : Option Nat :=
  let back := (s.timer.seq - s.gen.dueSeq).toNat
  if back = 0 then (if s.gen.phi < s.timer.length then some s.gen.phi else none)
  else if back = 1 then some (s.gen.phi - s.timer.prevLength)
  else if back < 128 then some 0
  else none

/-- The ticks until the OTB interval of the live cycle in progress has lasted OTBMIN, whatever interval is in progress
(R142, R143). -/
def otbWait (c : Image) (g : Gen) : Nat :=
  match g.interval with
  | some .dta => c.dta + g.otaEff + c.dtb + c.otbMin - g.age
  | some .ota => g.otaEff + c.dtb + c.otbMin - g.age
  | some .dtb => c.dtb + c.otbMin - g.age
  | some .otb => c.otbMin - g.age
  | none => 0

/-- The OTB minimum of the live cycle in progress has not run (R143). -/
def mustHold (c : Image) (g : Gen) : Bool :=
  g.kind == some .live && otbWait c g != 0

/-- OTA_eff becomes the smaller of staged demand and ceiling (R145). -/
def Gen.take (g : Gen) : Gen :=
  { g with otaEff := min g.staged.toNat g.ceiling }

/-- The demand is taken, and DEMAND_CLIPPED is raised when the staged demand was above the ceiling (R145). -/
def takeDemand (s : State) : State :=
  let s1 := { s with gen := s.gen.take }
  if s.gen.ceiling < s.gen.staged.toNat then raise .demandClipped s1 else s1

/-- φ moves by the walk and the due sequence is set (R147). -/
def Gen.walk (g : Gen) (c : Image) : Gen :=
  let move := walkMove c.p c.walkStep g.phi g.held
  { g with phi := movedPhi c.p g.phi move, dueSeq := g.dueSeq + BitVec.ofNat 8 (dueAdvance c.p g.phi move) }

/-- The new output cycle begins, live or dark (R141, R142). -/
def Gen.begin (g : Gen) (live : Bool) : Gen :=
  { g with
    kind := some (if live then .live else .dark)
    interval := if live then some .dta else none
    age := 0
    hold := false
    unbroken := live }

/-- A MARK pulse starts at a phase point taken in ACTIVE (R153). -/
def Gen.mark (g : Gen) (active : Bool) : Gen :=
  if active then { g with markCount := 4 } else g

/-- What follows the demand at a phase point: steps 2 to 5 of R139, in order. `wasHeld` makes the new cycle dark
(R143). -/
def beginCycle (c : Image) (wasHeld : Bool) (s : State) : State :=
  let active := s.member.state == .active
  let live := active && !wasHeld
  notice c s.gen.kind.isSome live { s with gen := ((s.gen.walk c).begin live).mark active }

/-- A phase point is taken: the five things of R139, in order. -/
def takePhasePoint (c : Image) (wasHeld : Bool) (s : State) : State :=
  beginCycle c wasHeld (takeDemand s)

/-- The instant of a phase point: it is held while the live cycle's OTB minimum has not run, and otherwise taken
(R139, R143). -/
def reachPhasePoint (c : Image) (s : State) : State :=
  if mustHold c s.gen then { s with gen := { s.gen with hold := true } } else takePhasePoint c false s

/-- The phase point has fallen due by the present counter. -/
def phasePassed (s : State) : Bool :=
  match phaseOffset s with
  | none => false
  | some o => o ≤ s.timer.counter

/-- A held phase point is taken; the next one is taken directly after it when its instant has also passed (R143). -/
def takeHeld (c : Image) (s : State) : State :=
  let s1 := takePhasePoint c true s
  if phasePassed s1 then takePhasePoint c false s1 else s1

/-- A phase point is due at this instant and not held (R139, R150). -/
def phaseDue (s : State) : Bool :=
  !s.gen.hold && phasePassed s

/-- The OTB minimum has run for a held phase point (R143). -/
def heldDue (c : Image) (s : State) : Bool :=
  s.gen.hold && otbWait c s.gen == 0

/-! ### Intervals (R142) -/

/-- The length of the interval in progress, none for OTB, which a phase point ends. -/
def intervalLength (c : Image) (g : Gen) : Option Nat :=
  match g.interval with
  | some .dta => some c.dta
  | some .ota => some g.otaEff
  | some .dtb => some c.dtb
  | some .otb => none
  | none => none

/-- The interval in progress has run. -/
def intervalDue (c : Image) (s : State) : Bool :=
  match intervalLength c s.gen with
  | none => false
  | some n => n ≤ s.gen.age

/-- The interval that follows; an empty OTA is passed over. -/
def nextInterval (g : Gen) : Option Interval :=
  match g.interval with
  | some .dta => some (if g.otaEff = 0 then .dtb else .ota)
  | some .ota => some .dtb
  | some .dtb => some .otb
  | some .otb => some .otb
  | none => none

/-- The next interval begins. -/
def endInterval (s : State) : State :=
  { s with gen := { s.gen with interval := nextInterval s.gen, age := 0 } }

/-! ### Entry to ACTIVE and coarse step -/

/-- The jump of R149: φ takes the held target and the due cycle is the one just begun; with φ* = 0 the entry boundary
is itself a phase point. A hold that waited for the old due point ends (log 20). -/
def jump (c : Image) (s : State) : State :=
  let s1 := { s with gen := { s.gen with phi := s.gen.held, dueSeq := s.timer.seq, hold := false } }
  if s.gen.held = 0 then reachPhasePoint c s1 else s1

/-- The timer's own limit on a cycle that begins in this state, with the length that follows (R4). -/
def Timer.limit (t : Timer) (c : Image) (m : Membership) : Timer :=
  let corr := clamp (-(corrLimit c m)) (corrLimit c m) t.corr
  { t with corr := corr, length := ((c.p : Int) + corr + t.trimTick).toNat }

/-- The state becomes ACTIVE at a boundary: the windows stop, the cycle that begins there is limited to ±CORRMAX, and
the generator jumps (R86, R94, R149, R4; log 24). -/
def enterActive (c : Image) (s : State) : State :=
  let s1 := { s with
    member := s.member.enter .active
    timer := if s.timer.counter = 0 then s.timer.limit c .active else s.timer }
  jump c s1

/-- The generator's due point after a coarse step to this pair; φ keeps its value (R140). A hold that waited for the
old due point ends (log 20). -/
def Gen.stepped (g : Gen) (seq : Seq) (counter : Nat) : Gen :=
  { g with dueSeq := (if counter < g.phi then seq else seq + 1), hold := false }

end Sys2Proof.Machine
end

