-- ==== Sys2Proof/Machine/RosterOps.lean ====
section
/-! DEFINITION. The Station Roster's changes: a frame of each kind (R44 to R52), aging (R53), plan apply (R55), and the
clearing of deviations at a coarse step (R49). -/

namespace Sys2Proof.Machine

/-- Station j is in the current set of the Plan Controller; a station that holds none has every peer outside (R43). -/
def inCurrent (s : State) (j : Station) : Bool :=
  match s.plan.set with
  | none => false
  | some m => inSet m j

/-- Presence after a BEACON from a station of the current set whose CYCLEN equals P (R46). -/
def memberPresence (before : Presence) (m : Reported) : Presence :=
  match before, m with
  | .departed, .active => .departed
  | .departed, .joining => .departed
  | .departed, .draining => .departed
  | .silent, .active => .member
  | .silent, .joining => .silent
  | .silent, .draining => .departed
  | .member, .active => .member
  | .member, .joining => .member
  | .member, .draining => .departed
  | .excluded, .active => .member
  | .excluded, .joining => .member
  | .excluded, .draining => .departed
  | .absent, .active => .member
  | .absent, .joining => .member
  | .absent, .draining => .departed
  | .heard, .active => .member
  | .heard, .joining => .member
  | .heard, .draining => .departed

/-- Presence after any BEACON (R45, R46, R47). -/
def beaconPresence (samePeriod inCur : Bool) (before : Presence) (m : Reported) : Presence :=
  if !samePeriod then .excluded else if inCur then memberPresence before m else .heard

/-- An entry after a BEACON (R44, R45 to R48). -/
def Entry.onBeacon (e : Entry) (c : Image) (inCur : Bool) (b : BeaconBody) : Entry :=
  { e with
    silence := 0
    presence := beaconPresence (b.cyclen.toNat == c.p) inCur e.presence b.mstate
    reported := some b.mstate
    lock := b.lock
    lastSeq := b.seq
    epoch := b.cepoch
    pendEpoch := if b.ppend then some b.pepoch else none }

/-- An entry after a PLAN (R44, R50). -/
def Entry.onPlan (e : Entry) (inCur : Bool) : Entry :=
  { e with
    silence := 0
    presence := if e.presence = .absent then (if inCur then .member else .heard) else e.presence }

/-- An entry after a FAULT (R44, R51). -/
def Entry.onFault (e : Entry) (inCur : Bool) (b : FaultBody) : Entry :=
  { e with
    silence := 0
    presence := if inCur then .departed else if e.presence = .absent then .heard else e.presence
    lastSeq := b.seq
    faultOrigin := some b.origin }

/-- An entry after a LEAVE (R44, R52). -/
def Entry.onLeave (e : Entry) (inCur : Bool) (b : LeaveBody) : Entry :=
  if inCur then { e with silence := 0, presence := .departed, lastSeq := b.seq } else Entry.cleared

/-- The count of silence at a boundary: every entry that is not ABSENT rises by one and stays at 255 (R53). -/
def Entry.age (e : Entry) : Entry :=
  if e.presence = .absent then e else { e with silence := min (e.silence + 1) 255 }

/-- The presence change at the silence limit, where the table of R53 gives one. -/
def silenceChange (inCur : Bool) (p : Presence) : Option Presence :=
  match p, inCur with
  | .heard, false => some .absent
  | .excluded, false => some .absent
  | .excluded, true => some .silent
  | .member, true => some .silent
  | .heard, true => none
  | .member, false => none
  | .silent, _ => none
  | .departed, _ => none
  | .absent, _ => none

/-- An entry tested against the silence limit (R53). -/
def Entry.testSilence (e : Entry) (c : Image) (inCur : Bool) : Entry :=
  if silenceLimit c ≤ e.silence then
    match silenceChange inCur e.presence with
    | none => e
    | some .absent => Entry.cleared
    | some p => { e with presence := p }
  else e

/-- An entry at a plan apply (R55). -/
def Entry.onApply (e : Entry) (inNew : Bool) : Entry :=
  match e.presence with
  | .absent => if inNew then { e with presence := .member, silence := 0 } else e
  | .heard => if inNew then { e with presence := .member, silence := 0 } else e
  | .member => if inNew then { e with silence := 0 } else { e with presence := .heard }
  | .silent => if inNew then { e with presence := .member, silence := 0 } else Entry.cleared
  | .departed => if inNew then { e with presence := .member, silence := 0 } else Entry.cleared
  | .excluded => e

/-- Every entry but the own changes by `f`; the own entry passes by (R41). -/
def mapPeers (own : Station) (f : Station → Entry → Entry) (r : PerStation Entry) : PerStation Entry :=
  tabulate fun j => if j = own then r[j] else f j r[j]

/-- The entry of the sender changes by `f`. -/
def updateEntry (j : Station) (f : Entry → Entry) (s : State) : State :=
  { s with roster := putAt s.roster j (f s.roster[j]) }

/-- Silence counted at a cycle boundary (R53). -/
def ageRoster (c : Image) (s : State) : State :=
  { s with roster := mapPeers c.station (fun _ e => e.age) s.roster }

/-- The silence limit of entry j is due: the table of R53 changes its presence. -/
def silenceDue (c : Image) (s : State) (j : Station) : Bool :=
  j != c.station && silenceLimit c ≤ (s.roster[j]).silence &&
    (silenceChange (inCurrent s j) (s.roster[j]).presence).isSome

/-- The silence limit of one entry is taken (R53). -/
def takeSilence (c : Image) (j : Station) (s : State) : State :=
  if j = c.station then s else updateEntry j (fun e => e.testSilence c (inCurrent s j)) s

/-- The entry of station j as a reader finds it: a silence limit that is due counts as taken, so that the entry is
never read between its aging and the change the aging brings (R54, R60). -/
def readEntry (s : State) (j : Station) : Entry :=
  match s.loader.config with
  | none => s.roster[j]
  | some c => (takeSilence c j s).roster[j]

/-- The silence limits of all entries are taken (R53). -/
def takeSilences (c : Image) (s : State) : State :=
  { s with roster := mapPeers c.station (fun j e => e.testSilence c (inCurrent s j)) s.roster }

/-- The roster's changes at a plan apply against the new set (R55). -/
def applyRoster (c : Image) (newSet : StationSet) (s : State) : State :=
  { s with roster := mapPeers c.station (fun j e => e.onApply (inSet newSet j)) s.roster }

/-- Every deviation becomes absent at a coarse step (R49). -/
def dropDeviations (s : State) : State :=
  { s with roster := tabulate fun j => { s.roster[j] with deviation := none } }

end Sys2Proof.Machine
end

