-- ==== Sys2Proof/Machine/AlignOps.lean ====
section
/-! DEFINITION. The Alignment Unit: adoption with the coarse step (R62, R63, R10), the deviation of a BEACON (R65 to
R68), and its work at a cycle boundary (R72 to R79). -/

namespace Sys2Proof.Machine

/-- The station has a timebase while PULLING or LOCKED (04, Alignment state). -/
def hasTimebase (s : State) : Bool :=
  s.align.state != .free

/-! ### Adoption (R62, R63) -/

/-- The BEACON is adopted (R62). -/
def adoptable (c : Image) (b : BeaconBody) (s : State) : Bool :=
  s.align.state == .free && (s.member.state == .detached || s.member.state == .listen) && b.mstate == .active &&
    b.cyclen.toNat == c.p

/-- The sender's counter at the instant of the step: x = STAMP + LATENCY + capture age (R10). -/
def stepSum (c : Image) (b : BeaconBody) (t : Timer) : Nat :=
  b.stamp.toNat + c.latency + t.captureAge

/-- The coarse step of the timer (R10); T, A and the capture age are kept (R11). -/
def Timer.coarse (t : Timer) (c : Image) (b : BeaconBody) : Timer :=
  { t with
    counter := stepSum c b t % c.p
    atEnd := false
    seq := b.seq + BitVec.ofNat 8 (stepSum c b t / c.p)
    length := c.p
    corr := 0
    trimTick := 0 }

/-- The coarse step: timer, the generator's due point, the roster's deviations (R10, R140, R49). -/
def coarseStep (c : Image) (b : BeaconBody) (s : State) : State :=
  let t := s.timer.coarse c b
  dropDeviations { s with timer := t, gen := s.gen.stepped t.seq t.counter }

/-- The alignment unit at adoption: table, streaks, window and mean cleared, PULLING (R63). -/
def Align.adopt (a : Align) : Align :=
  { a.toFree with state := .pulling }

/-- Adoption of a timebase, with what the Plan Controller and the Membership Controller do at it (R63, R118, R91). -/
def adopt (c : Image) (b : BeaconBody) (s : State) : State :=
  let s1 := coarseStep c b s
  let s2 := { s1 with align := s1.align.adopt, plan := { s1.plan with epoch := some b.cepoch } }
  if s2.member.state = .listen then moveTo .joining s2 else s2

/-! ### The deviation of a BEACON -/

/-- The sender is a reference sender, by its presence at arrival (R65). -/
def isReference (presence : Presence) (b : BeaconBody) (s : State) : Bool :=
  match s.plan.set with
  | some _ => presence == .member
  | none => presence == .heard && b.mstate == .active

/-- A usable deviation: table, roster entry, outlier streak (R67). -/
def takeUsable (j : Station) (d : Int) (s : State) : State :=
  let s1 := { s with align := { s.align with table := putAt s.align.table j (some d), outlierStreak := 0 } }
  updateEntry j (fun e => { e with deviation := some d }) s1

/-- The states in which an outlier streak of 3 asks for a resync (R68, R107). -/
def resyncState : Membership → Bool
  | .active => true
  | .draining => true
  | .joining => true
  | .unconfigured => false
  | .detached => false
  | .listen => false
  | .faulted => false

/-- An outlier: counter, streak, and a resync at a streak of 3 (R68, R107). -/
def takeOutlier (s : State) : State :=
  let s1 := { s with align := { s.align with
    outliers := countUp s.align.outliers
    outlierStreak := min (s.align.outlierStreak + 1) 3 } }
  if s1.align.outlierStreak = 3 ∧ resyncState s1.member.state = true then resync s1 else s1

/-- The measurement of a BEACON from a reference sender (R65 to R68). A frame delivered without a capture gives none. -/
def measure (c : Image) (j : Station) (presence : Presence) (b : BeaconBody) (s : State) : State :=
  match s.timer.capture with
  | none => s
  | some cap =>
    if hasTimebase s && isReference presence b s then
      let d := deviationOf c cap b.seq b.stamp.toNat
      if usable c d then takeUsable j d s else takeOutlier s
    else s

/-- What the Alignment Unit does with a BEACON: adoption, measurement or nothing (R62, R65). -/
def alignBeacon (c : Image) (j : Station) (presence : Presence) (b : BeaconBody) (s : State) : State :=
  if adoptable c b s then adopt c b s else measure c j presence b s

/-! ### Boundary work -/

/-- The lock streak of a measured cycle in PULLING: LOCKED at 8 (R78). -/
def lockPulling (c : Image) (m : Int) (s : State) : State :=
  let streak := if m.natAbs ≤ c.lockWin then s.align.lockStreak + 1 else 0
  if 8 ≤ streak then raise .lockGained { s with align := { s.align with state := .locked, lockStreak := 0 } }
  else { s with align := { s.align with lockStreak := streak } }

/-- The lock streak of a measured cycle in LOCKED: PULLING at 4 (R79). -/
def lockLocked (c : Image) (m : Int) (s : State) : State :=
  let streak := if m.natAbs ≤ c.lockWin then 0 else s.align.lockStreak + 1
  if 4 ≤ streak then raise .lockLost { s with align := { s.align with state := .pulling, lockStreak := 0 } }
  else { s with align := { s.align with lockStreak := streak } }

/-- The lock state machine at the end of a measured cycle (R78, R79). -/
def lockWork (c : Image) (m : Int) (s : State) : State :=
  match s.align.state with
  | .free => s
  | .pulling => lockPulling c m s
  | .locked => lockLocked c m s

/-- The alignment unit's records at a boundary: mean, emptied table, trim window (R72, R76). -/
def Align.endCycle (a : Align) (ended : Int) : Align :=
  { a with mean := tableMean a.table, table := tableReset, windowSum := a.windowSum + ended,
           windowCount := a.windowCount + 1 }

/-- The correction handed to the timer at a boundary; 0 stands for none (R5, R73). -/
def handCorrection (corr : Int) (s : State) : State :=
  { s with timer := { s.timer with corr := corr } }

/-- The Alignment Unit's boundary work. `had` says that the station had a timebase when the boundary came; `ended` is
the correction the timer applied to the ending cycle (R72 to R79). -/
def alignBoundary (c : Image) (had : Bool) (ended : Int) (s : State) : State :=
  if !had then handCorrection 0 s
  else
    let measured := !(tableValues s.align.table).isEmpty
    let s1 := { s with align := s.align.endCycle ended }
    if measured then
      handCorrection (correctionFor c s1.member.state s1.align.mean) (lockWork c s1.align.mean s1)
    else handCorrection 0 s1

end Sys2Proof.Machine
end

