-- ==== Sys2Proof/Machine/PlanOps.lean ====
section
/-! DEFINITION. The Plan Controller: reference and desired sets (R120 to R122), holdoff (R123, R124), issue, repeat
and relay (R126 to R128), adoption (R129 to R132) and apply (R134 to R136). -/

namespace Sys2Proof.Machine

/-! ### Reference and desired sets -/

/-- The reference set (R120). -/
def referenceSet (p : PlanCtl) : StationSet :=
  match p.pending with
  | some r => r.members
  | none => p.set.getD 0

/-- The reference epoch (R120). -/
def referenceEpoch (p : PlanCtl) : Epoch :=
  match p.pending with
  | some r => r.epoch
  | none => p.epoch.getD 0

/-- A presence that takes a station out of the desired set (R121). -/
def removable : Presence → Bool
  | .silent => true
  | .departed => true
  | .excluded => true
  | .absent => false
  | .heard => false
  | .member => false

/-- The removals of R121. -/
def afterRemovals (own : Station) (r : PerStation Entry) (ref : StationSet) : StationSet :=
  stations.foldl (fun m j => if j ≠ own && removable (r[j]).presence then removeFrom m j else m) ref

/-- A joiner: outside the reference set, HEARD, reporting JOINING with lock 1 (R122). -/
def isJoiner (ref : StationSet) (j : Station) (e : Entry) : Bool :=
  !inSet ref j && e.presence == .heard && e.reported == some .joining && e.lock

/-- Joiners added in ascending order while the set holds fewer than MAXMEMBERS; none when the reference set already
holds more (R122). -/
def afterAdditions (c : Image) (r : PerStation Entry) (ref m : StationSet) : StationSet :=
  if c.maxMembers < sizeOf ref then m
  else stations.foldl (fun m j => if isJoiner ref j r[j] && sizeOf m < c.maxMembers then insertIn m j else m) m

/-- The desired set; one that comes out empty counts as equal to the reference set (R121, R122). -/
def desiredSet (c : Image) (s : State) : StationSet :=
  let ref := referenceSet s.plan
  let m := afterAdditions c s.roster ref (afterRemovals c.station s.roster ref)
  if m = 0 then ref else m

/-- The desired set differs from the reference set. -/
def changeWanted (c : Image) (s : State) : Bool :=
  desiredSet c s != referenceSet s.plan

/-! ### Holdoff -/

/-- The holdoff after an evaluation (R123). -/
def holdoffAfter (c : Image) (before : Option Nat) (wanted : Bool) : Option Nat :=
  match before, wanted with
  | none, true => some (holdoffStart c)
  | some n, true => some (n - 1)
  | some _, false => none
  | none, false => none

/-- The evaluation at a boundary, while ACTIVE (R123). -/
def evaluate (c : Image) (s : State) : State :=
  if s.member.state = .active then
    { s with plan := { s.plan with holdoff := holdoffAfter c s.plan.holdoff (changeWanted c s) } }
  else s

/-- The evaluation at an adoption: a counting holdoff restarts or stops (R124). -/
def reevaluate (c : Image) (s : State) : State :=
  match s.plan.holdoff with
  | none => s
  | some _ =>
    { s with plan := { s.plan with holdoff := if changeWanted c s then some (holdoffStart c) else none } }

/-! ### Repeat, and the rest of the boundary work -/

/-- The pending record still holds the plan last issued (R127). -/
def PlanCtl.holdsIssued (p : PlanCtl) : Bool :=
  p.pending.isSome && p.pending == p.lastIssued

/-- The repeats end once the pending record no longer holds the issued plan (R127). -/
def PlanCtl.endRepeats (p : PlanCtl) : PlanCtl :=
  if p.holdsIssued then p else { p with repeats := 0 }

/-- A repeat, when one is due (R127). -/
def repeatIssued (s : State) : State :=
  match s.plan.pending with
  | none => { s with plan := s.plan.endRepeats }
  | some r =>
    if s.plan.holdsIssued && 0 < s.plan.repeats && s.member.state == .active then
      { s with link := s.link.requestPlan r, plan := { s.plan with repeats := s.plan.repeats - 1 } }
    else { s with plan := s.plan.endRepeats }

/-- The relay flag clears at every boundary (R119, R125). -/
def clearRelay (s : State) : State :=
  { s with plan := { s.plan with relay := false } }

/-- Steps 2 to 4 of R125, less the issue, which has a row of its own. -/
def planRest (c : Image) (s : State) : State :=
  evaluate c (repeatIssued (clearRelay s))

/-! ### Issue -/

/-- The holdoff has reached 0 (R123). -/
def issueDue (s : State) : Bool :=
  s.plan.holdoff == some 0 && s.member.state == .active

/-- The plan issued at this boundary (R126). -/
def newPlan (c : Image) (s : State) : PlanRecord where
  epoch := referenceEpoch s.plan + 1
  issuer := c.station
  members := desiredSet c s
  effSeq := s.timer.seq + BitVec.ofNat 8 c.planLead

/-- The plan is taken as pending, queued and counted (R126). -/
def issue (r : PlanRecord) (s : State) : State :=
  { s with
    link := s.link.requestPlan r
    plan := { s.plan with
      pending := some r
      lastIssued := some r
      issued := countUp s.plan.issued
      repeats := 2
      holdoff := none } }

/-- PLAN_ISSUE: the issue of R126; the holdoff restarts when the new epoch would not be newer than the current one,
and stops when no difference is left (R123). -/
def takeIssue (c : Image) (s : State) : State :=
  if !issueDue s then s
  else if !changeWanted c s then { s with plan := { s.plan with holdoff := none } }
  else if newer (newPlan c s).epoch (s.plan.epoch.getD 0) then issue (newPlan c s) s
  else { s with plan := { s.plan with holdoff := some (holdoffStart c) } }

/-! ### Relay -/

/-- The sender of a BEACON lacks the pending plan (R128). -/
def lacksPlan (r : PlanRecord) (presence : Presence) (b : BeaconBody) : Bool :=
  presence == .member && older b.cepoch r.epoch && (!b.ppend || older b.pepoch r.epoch)

/-- A relay, when its conditions hold (R128). -/
def relay (presence : Presence) (b : BeaconBody) (s : State) : State :=
  match s.plan.pending with
  | none => s
  | some r =>
    if inGroup s.member.state && lacksPlan r presence b && !s.plan.relay then
      { s with link := s.link.requestPlan r, plan := { s.plan with relay := true } }
    else s

/-! ### Adoption of a received plan -/

/-- A plan is late when its effective sequence is not in the future (R132). -/
def isLate (r : PlanRecord) (q : Seq) : Bool :=
  !newer r.effSeq q

/-- The record held for an adopted plan: a late one applies at the next boundary (R132). -/
def heldRecord (r : PlanRecord) (q : Seq) : PlanRecord :=
  if isLate r q then { r with effSeq := q + 1 } else r

/-- A plan is adopted as the pending plan: late test, repeats, holdoff (R130, R132, R127, R124). -/
def adoptPlan (c : Image) (r : PlanRecord) (s : State) : State :=
  let p := { s.plan with
    pending := some (heldRecord r s.timer.seq)
    late := if isLate r s.timer.seq then countUp s.plan.late else s.plan.late }
  reevaluate c { s with plan := p.endRepeats }

/-- A plan of the pending epoch, settled field by field (R131). -/
def settleEqual (c : Image) (r held : PlanRecord) (s : State) : State :=
  if r.members = held.members ∧ r.effSeq = held.effSeq then
    if r.issuer = held.issuer then s
    else
      let p := { s.plan with pending := some { held with issuer := min r.issuer held.issuer } }
      { s with plan := p.endRepeats }
  else
    let s1 := { s with plan := { s.plan with conflict := countUp s.plan.conflict } }
    if r.issuer < held.issuer then adoptPlan c r s1 else s1

/-- The adoption tests (R129, R130). -/
def judgePlan (c : Image) (r : PlanRecord) (s : State) : State :=
  match s.plan.epoch with
  | none => s
  | some cur =>
    if s.align.state = .free ∨ r.members = 0 ∨ !newer r.epoch cur then s
    else match s.plan.pending with
      | none => adoptPlan c r s
      | some held =>
        if r.epoch = held.epoch then settleEqual c r held s
        else if newer r.epoch held.epoch then adoptPlan c r s
        else s

/-! ### Apply -/

/-- The pending plan's effective sequence is the own sequence (R134). -/
def applyDue (s : State) : Bool :=
  match s.plan.pending with
  | none => false
  | some r => r.effSeq == s.timer.seq

/-- Steps 1 and 2 of R134: the records, and the place in the new set (R135). -/
def PlanCtl.apply (p : PlanCtl) (c : Image) (r : PlanRecord) : PlanCtl :=
  { p with
    epoch := some r.epoch
    set := some r.members
    place := placeIn c.p r.members c.station
    pending := none }

/-- The phase target is handed to the generator when the own station is in the set (R135, R148). -/
def handTarget (s : State) : State :=
  match s.plan.place with
  | none => s
  | some k => { s with gen := { s.gen with held := k.target } }

/-- Step 4 of R134: membership at an apply (R94, R99, R100, R101). -/
def applyMembership (c : Image) (own : Bool) (s : State) : State :=
  match s.member.state, own with
  | .joining, true => raise .joined (enterActive c s)
  | .active, false => raise .removed (moveTo .detached s)
  | .draining, false => raise .left (moveTo .detached s)
  | .joining, false => s
  | .active, true => s
  | .draining, true => s
  | .detached, _ => s
  | .faulted, _ => s
  | .listen, _ => s
  | .unconfigured, _ => s

/-- Step 5 of R134: a sole member's PULLING becomes LOCKED, and LOCKED is left with its streak (R80, log 32). -/
def soleMemberLock (c : Image) (r : PlanRecord) (s : State) : State :=
  if r.members = only c.station ∧ s.align.state = .pulling then
    raise .lockGained { s with align := { s.align with state := .locked, lockStreak := 0 } }
  else s

/-- The apply of R134, after the aging that R56 puts before it. -/
def applyPlan (c : Image) (r : PlanRecord) (s : State) : State :=
  let s1 := takeSilences c s
  let s2 := handTarget { s1 with plan := s1.plan.apply c r }
  let s3 := applyMembership c (inSet r.members c.station) (applyRoster c r.members s2)
  raise .planApplied (soleMemberLock c r s3)

/-- The apply when it is due, followed by the rest of the Plan Controller's boundary work (R125, R134). -/
def takeApply (c : Image) (s : State) : State :=
  match s.plan.pending with
  | none => s
  | some r => if r.effSeq = s.timer.seq then planRest c (applyPlan c r s) else s

end Sys2Proof.Machine
end

