-- ==== Sys2Proof/Machine/MemberOps.lean ====
section
/-! DEFINITION. The Membership Controller: founding (R92), the ends of its windows (R93, R99), the resync causes of a
BEACON (R108, R109), the clash (R111), the commands LEAVE (R95, R97) and JOIN (R89), and CLEAR FAULT (R171, R104). -/

namespace Sys2Proof.Machine

/-! ### Windows -/

/-- The running windows count a boundary (R88). -/
def Member.countWindows (m : Member) : Member :=
  { m with
    listenWindow := m.listenWindow.map (· + 1)
    joinWindow := m.joinWindow.map (· + 1)
    drainWindow := m.drainWindow.map (· + 1) }

/-- A window has reached its length (R88). -/
def windowOver (w : Option Nat) (length : Nat) : Bool :=
  match w with
  | none => false
  | some n => length ≤ n

/-- The listen window ends with the station still FREE (R90). -/
def listenDue (c : Image) (s : State) : Bool :=
  s.member.state == .listen && windowOver s.member.listenWindow (listenLength c) && s.align.state == .free

/-- The join window ends (R93). -/
def joinDue (c : Image) (s : State) : Bool :=
  s.member.state == .joining && windowOver s.member.joinWindow (joinLength c)

/-- The drain window ends (R99). -/
def drainDue (c : Image) (s : State) : Bool :=
  s.member.state == .draining && windowOver s.member.drainWindow (drainLength c)

/-- The plan records at founding (R92, R118). -/
def PlanCtl.found (p : PlanCtl) (own : Station) : PlanCtl :=
  { p with epoch := some 0, set := some (only own), place := some ⟨0, 1, 0⟩, pending := none, holdoff := none }

/-- The alignment unit at founding (R80). -/
def Align.found (a : Align) : Align :=
  { a.toFree with state := .locked }

/-- Founding, in the four steps of R92. -/
def found (c : Image) (s : State) : State :=
  let s1 := handTarget { s with plan := s.plan.found c.station }
  let s2 := raise .lockGained { s1 with align := s1.align.found }
  raise .joined (enterActive c s2)

/-- LISTEN_WINDOW_END (R92). -/
def takeListenEnd (c : Image) (s : State) : State :=
  if listenDue c s then found c s else s

/-- The pending plan's set contains the own station (R93). -/
def pendingHasOwn (c : Image) (s : State) : Bool :=
  match s.plan.pending with
  | none => false
  | some r => inSet r.members c.station

/-- JOIN_WINDOW_END (R93). -/
def takeJoinEnd (c : Image) (s : State) : State :=
  if !joinDue c s then s
  else if pendingHasOwn c s then { s with member := { s.member with joinWindow := some 0 } }
  else if s.member.attempts + 1 < 3 then
    { s with member := { s.member with joinWindow := some 0, attempts := s.member.attempts + 1 } }
  else raise .joinFailed (moveTo .detached s)

/-- DRAIN_WINDOW_END (R99). -/
def takeDrainEnd (c : Image) (s : State) : State :=
  if drainDue c s then raise .left (moveTo .detached s) else s

/-! ### Resync causes of a BEACON -/

/-- The senders tested for a stale epoch (R108). -/
def staleTested (presence : Presence) (b : BeaconBody) (s : State) : Bool :=
  match s.member.state with
  | .active => presence == .member
  | .draining => presence == .member
  | .joining => b.mstate == .active && (presence == .member || presence == .heard)
  | .unconfigured => false
  | .detached => false
  | .listen => false
  | .faulted => false

/-- The pending plan excuses the stale-epoch test (R108). -/
def staleExcused (p : PlanCtl) (cepoch : Epoch) : Bool :=
  match p.pending with
  | none => false
  | some r => r.epoch == cepoch || newer r.epoch cepoch

/-- The BEACON shows a stale epoch that is not excused (R108). -/
def staleEpoch (presence : Presence) (b : BeaconBody) (s : State) : Bool :=
  match s.plan.epoch with
  | none => false
  | some own => staleTested presence b s && newer b.cepoch own && !staleExcused s.plan b.cepoch

/-- The BEACON is from a foreign member (R109). -/
def foreign (j : Station) (presence : Presence) (b : BeaconBody) (s : State) : Bool :=
  s.member.state == .active && b.mstate == .active && presence == .heard && !inCurrent s j &&
    (match s.plan.pending with
     | none => true
     | some r => !inSet r.members j)

/-- The merge test makes the own group yield: LOWEST is lower than the own lowest (R109). -/
def mergeYield (j : Station) (presence : Presence) (b : BeaconBody) (s : State) : Bool :=
  foreign j presence b s && b.lowest.toNat < (lowestOf (s.plan.set.getD 0)).val

/-- The BEACON is a cause of a resync for the Membership Controller (R108, R109). -/
def resyncCause (j : Station) (presence : Presence) (b : BeaconBody) (s : State) : Bool :=
  staleEpoch presence b s || mergeYield j presence b s

/-- What the Membership Controller does with a BEACON (R108, R109). -/
def memberBeacon (j : Station) (presence : Presence) (b : BeaconBody) (s : State) : State :=
  if resyncCause j presence b s then resync s else s

/-! ### Clash (R111) -/

/-- A clash report, by the membership state (R111). -/
def clash (s : State) : State :=
  let s1 :=
    match s.member.state with
    | .active => moveTo .detached { s with link := s.link.requestLeave .clash }
    | .draining => moveTo .detached { s with link := s.link.requestLeave .clash }
    | .joining => moveTo .detached s
    | .listen => moveTo .detached s
    | .detached => s
    | .faulted => s
    | .unconfigured => s
  raise .clash { s1 with member := { s1.member with clashHold := true } }

/-! ### Commands of the local controller -/

/-- The last command result is recorded (R195). -/
def recordResult (r : CmdResult) (s : State) : State :=
  { s with port := { s.port with result := r } }

/-- JOIN (R89). -/
def commandJoin (s : State) : State :=
  match s.member.state with
  | .detached => recordResult .accepted (joinPath { s with member := { s.member with clashHold := false } })
  | .unconfigured => recordResult .unconfigured s
  | .listen => recordResult .wrongState s
  | .joining => recordResult .wrongState s
  | .active => recordResult .wrongState s
  | .draining => recordResult .wrongState s
  | .faulted => recordResult .wrongState s

/-- The station is sole member in the sense of R97. -/
def soleMember (s : State) : Bool :=
  match s.loader.config with
  | none => false
  | some c =>
    s.plan.set == some (only c.station) &&
      (match s.plan.pending with
       | none => true
       | some r => removeFrom r.members c.station == 0#16)

/-- LEAVE in ACTIVE (R97). -/
def leaveGroup (s : State) : State :=
  if soleMember s then raise .left (moveTo .detached s)
  else moveTo .draining { s with link := s.link.requestLeave .requested }

/-- LEAVE (R95, R97). -/
def commandLeave (s : State) : State :=
  match s.member.state with
  | .active => recordResult .accepted (leaveGroup s)
  | .listen => recordResult .accepted (moveTo .detached s)
  | .joining => recordResult .accepted (moveTo .detached s)
  | .unconfigured => recordResult .wrongState s
  | .detached => recordResult .wrongState s
  | .draining => recordResult .wrongState s
  | .faulted => recordResult .wrongState s

/-- The monitor's part of an accepted CLEAR FAULT (R171, steps 1 to 3). -/
def Monitor.clearLatch (m : Monitor) : Monitor :=
  { m with latchForce := false, latch := none, history := [], emptied := [] }

/-- AUTOJOIN of the image in force. -/
def autoJoins (s : State) : Bool :=
  match s.loader.config with
  | none => false
  | some c => c.autoJoin

/-- An accepted CLEAR FAULT (R171, R104). -/
def clearLatched (s : State) : State :=
  let s1 := moveTo .detached { s with mon := s.mon.clearLatch }
  if autoJoins s1 && !s1.member.clashHold then joinPath s1 else s1

/-- CLEAR FAULT (R171). -/
def commandClear (s : State) : State :=
  if s.member.state = .faulted then
    if s.mon.a.asserted || s.mon.b.asserted then recordResult .faultActive s
    else recordResult .accepted (clearLatched s)
  else recordResult .wrongState s

end Sys2Proof.Machine
end

