-- ==== Sys2Proof/Machine/BoundaryOps.lean ====
section
/-! DEFINITION. The trim window's end (R77), the cycle boundary with every block's work at it (R3 to R6, R36, R53, R72
to R76, R88, R125), and the beacon point (R36, R37). -/

namespace Sys2Proof.Machine

/-! ### Trim window -/

/-- The trim window has reached 16 boundaries (R77). -/
def trimDue (s : State) : Bool :=
  16 ≤ s.align.windowCount

/-- T after a trim step (R7). -/
def Timer.trimBy (t : Timer) (step : Int) : Timer :=
  { t with trim := clamp (-127) 127 (t.trim + step) }

/-- TRIM_WINDOW_END: the trim step is handed over and a new window begins (R77, R7). Until this step the window count
stands at 16, and an ALIGN READ copied before it at the boundary's instant shows T before the step, where R77 leaves a
reader's copy open (log 27). -/
def takeTrimEnd (s : State) : State :=
  if trimDue s then
    { s with
      timer := s.timer.trimBy (signStep s.align.windowSum)
      align := { s.align with windowCount := 0, windowSum := 0 } }
  else s

/-! ### The cycle boundary -/

/-- The trim accumulator and the trim tick it produces (R6). -/
def accumulate (acc trim : Int) : Int × Int :=
  let sum := acc + trim
  if 1024 ≤ sum then (sum - 1024, 1) else if sum ≤ -1024 then (sum + 1024, -1) else (sum, 0)

/-- The timer's own change at a boundary, but for the length, which follows from the correction (R3, R6). -/
def Timer.turn (t : Timer) : Timer :=
  { t with
    prevLength := t.length
    seq := t.seq + 1
    counter := 0
    atEnd := false
    acc := (accumulate t.acc t.trim).1
    trimTick := (accumulate t.acc t.trim).2 }

/-- The cycle is a beaconing cycle for the station (R36). -/
def beaconingCycle (c : Image) (seq : Seq) (m : Membership) : Bool :=
  beacons m && seq.toNat % c.beaconInt == c.station.val % c.beaconInt

/-- The beacon point of the new cycle (R36). -/
def newBeaconPoint (c : Image) (s : State) : Option Nat :=
  if beaconingCycle c s.timer.seq s.member.state then
    some (if s.member.state = .joining then joiningPoint c else s.gen.phi)
  else none

/-- The beacon schedule's work at a boundary (R36). -/
def fixBeaconPoint (c : Image) (s : State) : State :=
  { s with link := { s.link with beaconPoint := newBeaconPoint c s, beaconDone := false } }

/-- One work of a boundary. `had` and `ended` are the timebase and the applied correction that the boundary found. The
Plan Controller's work waits for an apply that is due, which brings it with it (R125). -/
def takeWork (c : Image) (had : Bool) (ended : Int) (w : BoundaryWork) (s : State) : State :=
  match w with
  | .alignment => alignBoundary c had ended s
  | .beaconSchedule => fixBeaconPoint c s
  | .planWork => if applyDue s then s else planRest c s
  | .silence => takeSilences c s
  | .apply => takeApply c s
  | .listenEnd => takeListenEnd c s
  | .joinEnd => takeJoinEnd c s
  | .drainEnd => takeDrainEnd c s
  | .phasePoint => if phaseDue s then reachPhasePoint c s else s

/-- Each work once, at its first place (log 5). -/
def keepFirst : List BoundaryWork → List BoundaryWork
  | [] => []
  | w :: ws => w :: (keepFirst ws).filter (· ≠ w)

/-- The works of a boundary: those the sender names first, then the three that belong to every boundary (log 5). -/
def workOrder (order : List BoundaryWork) : List BoundaryWork :=
  keepFirst (order ++ [.alignment, .beaconSchedule, .planWork])

/-- One work of the order, with the mark that the Plan Controller's work is done: an apply brings it with it (R125). -/
def workStep (c : Image) (had : Bool) (ended : Int) (acc : Bool × State) (w : BoundaryWork) : Bool × State :=
  if w = .planWork ∧ acc.1 = true then acc
  else (acc.1 || (w == .apply && applyDue acc.2), takeWork c had ended w acc.2)

/-- The works of a boundary in their order. Where a sole member's apply comes before the alignment's work, a station
that the boundary found LOCKED with a lock streak of 3 is made PULLING by the out-of-lock streak of R79 after it, where
the last sentence of R80 has LOCKED in both orders (log 32). -/
def takeWorks (c : Image) (had : Bool) (ended : Int) (works : List BoundaryWork) (s : State) : State :=
  (works.foldl (workStep c had ended) (false, s)).2

/-- The change of cycle that every work finds: the timer's turn, silence counted (R53), windows counted (R88). -/
def turn (c : Image) (s : State) : State :=
  let s1 := ageRoster c { s with timer := s.timer.turn }
  { s1 with member := s1.member.countWindows }

/-- The new cycle's correction and length, by the membership state it begins in (R4). -/
def fixLength (c : Image) (s : State) : State :=
  { s with timer := s.timer.limit c s.member.state }

/-- A cycle boundary: the cycle turns, the works are done, and the length is fixed (R3). -/
def boundary (c : Image) (order : List BoundaryWork) (s : State) : State :=
  fixLength c (takeWorks c (hasTimebase s) s.timer.corr (workOrder order) (turn c s))

/-! ### The beacon point -/

/-- The counter has reached the beacon point, or the last tick of a shorter cycle, and no BEACON was requested for it
(R36, R37). -/
def beaconDue (s : State) : Bool :=
  match s.link.beaconPoint with
  | none => false
  | some point => !s.link.beaconDone && min point (s.timer.length - 1) ≤ s.timer.counter

/-- The beacon point: a BEACON is requested while the state still beacons (R36). -/
def beaconNow (s : State) : State :=
  let l := if beacons s.member.state then s.link.requestBeacon else s.link
  { s with link := { l with beaconDone := true } }

end Sys2Proof.Machine
end

