-- ==== Sys2Proof/Machine/LineOps.lean ====
section
/-! DEFINITION. The fault lines: sample (R157), qualification (R158), and the actions of the modes (R159, R160, R163,
R166, R168). -/

namespace Sys2Proof.Machine

/-- A line of the monitor. -/
def Monitor.line (m : Monitor) : FaultLine → LineState
  | .flta => m.a
  | .fltb => m.b

/-- A line of the monitor changes. -/
def Monitor.setLine (m : Monitor) (l : FaultLine) (x : LineState) : Monitor :=
  match l with
  | .flta => { m with a := x }
  | .fltb => { m with b := x }

/-- A line of the monitor is replaced. -/
def setLine (l : FaultLine) (x : LineState) (s : State) : State :=
  { s with mon := s.mon.setLine l x }

/-- The origin of a latch by a line (R166). -/
def lineOrigin : FaultLine → Origin
  | .flta => .flta
  | .fltb => .fltb

/-- The line after a sample that reads this level, before any action (R157, R158). -/
def LineState.sampled (x : LineState) (set : LineSettings) (pin : Level) : LineState :=
  let y := { x with phase := 0, pin := pin }
  if (pin == set.asserted) = x.asserted then { y with runCount := 0 }
  else if set.count ≤ x.runCount + 1 then { y with asserted := !x.asserted, runCount := 0 }
  else { y with runCount := x.runCount + 1 }

/-- The sample made the line qualify ASSERTED (R158). -/
def qualifiesAsserted (before after : LineState) : Bool :=
  after.asserted && !before.asserted

/-- The output cycle in progress is cut already. -/
def Monitor.marked (m : Monitor) : Bool :=
  m.a.cutMark || m.b.cutMark

/-- The line joins the cut mark. -/
def LineState.mark (x : LineState) : LineState :=
  { x with cutMark := true }

/-- The line sets its hold force (R163). -/
def LineState.hold (x : LineState) : LineState :=
  { x with holdForce := true }

/-- The cut force is set (R160). -/
def setCutForce (s : State) : State :=
  { s with mon := { s.mon with cutForce := true } }

/-- A cycle becomes a cut cycle (R160). -/
def countCut (s : State) : State :=
  raise .cut { s with mon := { s.mon with cutCycles := countUp s.mon.cutCycles } }

/-- The cut: force at once; a live cycle is marked, and counted when the mark was empty (R160). -/
def cutBy (l : FaultLine) (s : State) : State :=
  let s1 := setCutForce s
  if s.gen.kind = some .live then
    let s2 := setLine l (s1.mon.line l).mark s1
    if s.mon.marked then s2 else countCut s2
  else s1

/-- The action of a line that qualifies ASSERTED (R159). -/
def assertAction (c : Image) (l : FaultLine) (s : State) : State :=
  match (c.line l).mode with
  | .off => s
  | .cut => cutBy l s
  | .hold => setLine l (s.mon.line l).hold s
  | .latch => latch (lineOrigin l) (c.line l).groupTrip s

/-- A sample of a line is taken (R157 to R159). -/
def sampleNow (c : Image) (l : FaultLine) (pin : Level) (s : State) : State :=
  let before := s.mon.line l
  let after := before.sampled (c.line l) pin
  let s1 := setLine l after s
  if qualifiesAsserted before after then assertAction c l s1 else s1

end Sys2Proof.Machine
end

