-- ==== Sys2Proof/Machine/LinkOps.lean ====
section
/-! DEFINITION. The levels other stations give PB (R16), and the link's transmitter and receiver: launch (R25), yield
(R28, R29), line fault (R30), completion (R26), SOF edge and glitch (R31), frame error (R33) and delivery (R32, R34). -/

namespace Sys2Proof.Machine

/-! ### What the other stations send (log 7) -/

/-- Two runs of levels on one wired-AND line (R16). -/
def wiredAnd : List Bool → List Bool → List Bool
  | [], bs => bs
  | as, [] => as
  | a :: as, b :: bs => (a && b) :: wiredAnd as bs

/-- The levels of bits sent one a bit time (R16, R17). -/
def levelsOf (c : Image) (bits : List Bool) : List Bool :=
  bits.flatMap (List.replicate c.bitTime)

/-- Other stations give the line these levels as well, from the present tick on. -/
def othersSend (levels : List Bool) (s : State) : State :=
  { s with line := wiredAnd s.line levels }

/-- The receiver leaves a frame for this state: the received bits go, and the idle count restarts (R18, R31, R33). -/
def Link.endReceiving (l : Link) (next : RxState) : Link :=
  { l with rx := next, rxBits := [], idle := 0 }

/-- The capture is discarded with its frame (R9). -/
def dropCapture (s : State) : State :=
  { s with timer := { s.timer with capture := none } }

/-- The capture of a SOF edge (R9). -/
def Timer.captureNow (t : Timer) : Timer :=
  { t with capture := some ⟨t.seq, t.counter⟩, captureAge := 0 }

/-- The receiver takes up a frame at its SOF edge (R31, R17). -/
def Link.beginReceiving (l : Link) : Link :=
  { l with rx := .receiving, rxBits := [], idle := 0 }

/-! ### Launch (R25, R21, R22) -/

/-- MSTATE of the own BEACON (R21). -/
def reportedState : Membership → Reported
  | .active => .active
  | .draining => .draining
  | .joining => .joining
  | .unconfigured => .joining
  | .detached => .joining
  | .listen => .joining
  | .faulted => .joining

/-- The content of a BEACON, formed at its SOF (R21). -/
def beaconContent (c : Image) (s : State) : BeaconBody where
  seq := s.timer.seq
  stamp := BitVec.ofNat 12 s.timer.counter
  mstate := reportedState s.member.state
  lock := s.align.state == .locked
  cepoch := s.plan.epoch.getD 0
  ppend := s.plan.pending.isSome
  pepoch := (s.plan.pending.map PlanRecord.epoch).getD 0
  lowest := BitVec.ofNat 4 (lowestOf (s.plan.set.getD 0)).val
  count := BitVec.ofNat 4 (sizeOf (s.plan.set.getD 0) - 1)
  cyclen := BitVec.ofNat 12 c.p

/-- The body the arbiter forms: the highest-priority waiting request (R25, R21, R22). -/
def arbitrate (c : Image) (s : State) : Option FrameBody :=
  match s.link.qFault, s.link.qLeave, s.link.qPlan, s.link.qBeacon with
  | some r, _, _, _ => some (.fault ⟨r.content.origin, r.content.gtrip, s.timer.seq⟩)
  | none, some r, _, _ => some (.leave ⟨s.timer.seq, r.content⟩)
  | none, none, some r, _ => some (.plan r.content)
  | none, none, none, some _ => some (.beacon (beaconContent c s))
  | none, none, none, none => none

/-- The launch is due: a request waits, the receiver follows no frame, and the idle count has reached the threshold
(R18, R25). -/
def launchDue (c : Image) (s : State) : Bool :=
  s.link.tx == .defer && (s.link.rx == .settle || s.link.rx == .hunt) &&
    launchThreshold c s.link.backoff ≤ s.link.idle

/-- The link at the launch of a frame (R25). -/
def Link.launch (l : Link) (f : Frame) : Link :=
  { l.beginReceiving with backoff := false, tx := .sending, inFlight := some ⟨f, true⟩ }

/-- The launch: content formed, SOF driven, time pair captured (R25, R9). -/
def launchNow (c : Image) (s : State) : State :=
  match arbitrate c s with
  | none => s
  | some body => { s with timer := s.timer.captureNow, link := s.link.launch ⟨c.station, body⟩ }

/-! ### The slots of the frame in flight -/

/-- The retry count of the request of a kind, when its slot holds one. -/
def Link.retries (l : Link) (k : FrameKind) : Option Nat :=
  match k with
  | .fault => l.qFault.map Slot.retry
  | .leave => l.qLeave.map Slot.retry
  | .plan => l.qPlan.map Slot.retry
  | .beacon => l.qBeacon.map Slot.retry

/-- The request of a kind leaves its slot. -/
def Link.clearSlot (l : Link) (k : FrameKind) : Link :=
  match k with
  | .fault => { l with qFault := none }
  | .leave => { l with qLeave := none }
  | .plan => { l with qPlan := none }
  | .beacon => { l with qBeacon := none }

/-- The request with its retry count one higher. -/
def Slot.retryMore {α : Type} (s : Slot α) : Slot α :=
  { s with retry := s.retry + 1 }

/-- The retry count of the request of a kind rises by one (R28). -/
def Link.countRetry (l : Link) (k : FrameKind) : Link :=
  match k with
  | .fault => { l with qFault := l.qFault.map Slot.retryMore }
  | .leave => { l with qLeave := l.qLeave.map Slot.retryMore }
  | .plan => { l with qPlan := l.qPlan.map Slot.retryMore }
  | .beacon => { l with qBeacon := l.qBeacon.map Slot.retryMore }

/-- The frame in flight ends; the transmitter returns to DEFER or IDLE by its queue (R26, R28, R30). -/
def Link.endSending (l : Link) : Link :=
  ({ l with inFlight := none, tx := .defer }).settleTx

/-! ### Yield (R28, R29) -/

/-- The instant of bit i's sample, counted from the SOF (R17). -/
def midBit (c : Image) (i : Nat) : Nat :=
  i * c.bitTime + c.bitTime / 2

/-- The bit i of the own frame in flight, none when nothing is in flight or the frame has no such bit. -/
def sentBit (s : State) (i : Nat) : Option Bool :=
  match s.link.tx, s.link.inFlight with
  | .sending, some f => (frameBits f.frame)[i]?
  | _, _ => none

/-- The sample of bit i of the own frame, which the station sent at this level, is taken at this instant (R17, R28,
R30). -/
def sampleOf (c : Image) (i : Nat) (level : Bool) (s : State) : Bool :=
  sentBit s i == some level && s.timer.captureAge == midBit c i

/-- The sample of bit i of the own frame, which the station sent at this level, is still to come or taken now. -/
def sampleAhead (c : Image) (i : Nat) (level : Bool) (s : State) : Bool :=
  sentBit s i == some level && s.timer.captureAge ≤ midBit c i

/-- The bit of the own frame that is sampled last. -/
def lastBit (s : State) : Nat :=
  s.link.rxBits.length - 1

/-- The sample taken now reads dominant though the station sent the bit recessive (R28). -/
def yieldDue (c : Image) (s : State) : Bool :=
  s.link.rxBits.getLast? == some false && lastBit s != 0 && sampleOf c (lastBit s) true s

/-- The launched request yields for the eighth time (R29). -/
def dropsAtYield (l : Link) (f : InFlight) : Bool :=
  f.holdsSlot && (match l.retries (bodyKind f.frame.body) with
    | none => false
    | some n => 7 ≤ n)

/-- The link at a yield: counters, backoff, retry count or drop, and the bits received so far (R28, R29). -/
def Link.yield (l : Link) (f : InFlight) (i : Nat) : Link :=
  let l1 := { l with
    yields := countUp l.yields
    backoff := true
    rxBits := (frameBits f.frame).take i ++ [false] }
  let l2 :=
    if dropsAtYield l f then { l1.clearSlot (bodyKind f.frame.body) with txDrop := countUp l.txDrop }
    else if f.holdsSlot then l1.countRetry (bodyKind f.frame.body)
    else l1
  l2.endSending

/-- What the other stations send from a yield's sample on: the rest of the dominant bit, then the bits that follow it;
a line that reads dominant already carries its levels. -/
def yieldLevels (c : Image) (rest : List Bool) (s : State) : List Bool :=
  if pbRecessive s then List.replicate (c.bitTime - c.bitTime / 2) false ++ levelsOf c rest else []

/-- The yield at a sample (R28, R29). -/
def yieldNow (c : Image) (y : YieldSample) (s : State) : State :=
  match s.link.inFlight with
  | none => s
  | some f =>
    let s1 := othersSend (yieldLevels c y.rest s) { s with link := s.link.yield f y.bit }
    if dropsAtYield s.link f then raise .txDropped s1 else s1

/-! ### Line fault (R30) -/

/-- The link at a line fault: the request is dropped if it still holds its slot, and the receiver settles (R30). -/
def Link.lineFault (l : Link) (f : InFlight) : Link :=
  let l1 := if f.holdsSlot then l.clearSlot (bodyKind f.frame.body) else l
  ({ l1 with txDrop := countUp l.txDrop }.endSending).endReceiving .settle

/-- The line fault (R30). -/
def lineFaultNow (s : State) : State :=
  match s.link.inFlight with
  | none => s
  | some f => raise .txDropped (dropCapture { s with link := s.link.lineFault f })

/-! ### Completion (R26) -/

/-- The own frame in flight has ended (R17, R26). -/
def completeDue (c : Image) (s : State) : Bool :=
  match s.link.tx, s.link.inFlight with
  | .sending, some f => frameLength f.frame * c.bitTime ≤ s.timer.captureAge
  | _, _ => false

/-- The link at a completion (R26, R27). -/
def Link.complete (l : Link) (f : InFlight) : Link :=
  let l1 := if f.holdsSlot then l.clearSlot (bodyKind f.frame.body) else l
  ({ l1 with framesTx := countUp l.framesTx }.endSending).endReceiving .hunt

/-- The completion of the own frame (R26). -/
def completeNow (s : State) : State :=
  match s.link.inFlight with
  | none => s
  | some f => { s with link := s.link.complete f }

/-! ### The receiver (R31 to R35) -/

/-- The bus is idle for a receiver in SETTLE (R18, R31). -/
def huntDue (c : Image) (s : State) : Bool :=
  s.link.rx == .settle && idleThreshold c ≤ s.link.idle

/-- SETTLE becomes HUNT; the idle count goes on (R31). -/
def enterHuntNow (s : State) : State :=
  { s with link := { s.link with rx := .hunt } }

/-- A SOF edge taken in HUNT (R31, R9). -/
def beginFrame (s : State) : State :=
  { s with timer := s.timer.captureNow, link := s.link.beginReceiving }

/-- The line reads dominant at this tick: in HUNT that is a SOF edge, in SETTLE the idle count returns to 0 (R18,
R31). -/
def takeDominant (s : State) : State :=
  match s.link.rx with
  | .hunt => beginFrame s
  | .settle => { s with link := { s.link with idle := 0 } }
  | .receiving => s
  | .off => s

/-- The line reads dominant in HUNT (R31). -/
def edgeDue (s : State) : Bool :=
  s.link.rx == .hunt && !pbRecessive s

/-- Other stations send these bits from this tick on, and the receiver sees the level the line then reads (R16, R18,
R31). -/
def takeEdge (c : Image) (bits : List Bool) (s : State) : State :=
  let s1 := othersSend (levelsOf c bits) s
  if pbRecessive s1 then s1 else takeDominant s1

/-- The receiver follows a frame that the own transmitter is not sending. -/
def following (s : State) : Bool :=
  s.link.rx == .receiving && s.link.tx != .sending

/-- The start bit's own sample reads recessive (R31). -/
def glitchDue (s : State) : Bool :=
  following s && s.link.rxBits == [true]

/-- A start bit rejected as a glitch (R31). -/
def glitchNow (s : State) : State :=
  dropCapture { s with link := s.link.endReceiving .hunt }

/-- The instant of the sample that shows a frame error: an EOF or CRC bit, or the frame's end (R33). -/
def errorAge (c : Image) (bits : List Bool) (pos : Nat) : Nat :=
  if pos = kindBits (sampledKind bits) then pos * c.bitTime else midBit c pos

/-- The bits sampled show a frame error at this instant (R33). -/
def errorDue (c : Image) (s : State) : Bool :=
  match judge s.link.rxBits with
  | .error pos => following s && s.timer.captureAge == errorAge c s.link.rxBits pos
  | .valid _ => false
  | .incomplete => false

/-- A frame error: counted, flagged, the frame and its capture discarded (R33). -/
def frameErrorNow (s : State) : State :=
  let s1 := { s with link := { s.link.endReceiving .settle with rxErr := countUp s.link.rxErr } }
  raise .rxError (dropCapture s1)

/-- The end of a valid frame of another source (R32, R34). -/
def endFrame (s : State) : State :=
  { s with link := { s.link.endReceiving .hunt with framesRx := countUp s.link.framesRx } }

/-- The bits sampled are a frame of another source that ends at this instant (R32, R34). -/
def frameEnded (c : Image) (s : State) : Option Frame :=
  match judge s.link.rxBits with
  | .valid f => if following s ∧ s.timer.captureAge = frameLength f * c.bitTime then some f else none
  | .error _ => none
  | .incomplete => none

/-! ### What the blocks do with a peer's frame (R44) -/

/-- A BEACON of station j written into its entry (R44 to R48). -/
def rosterBeacon (c : Image) (j : Station) (b : BeaconBody) (s : State) : State :=
  updateEntry j (fun e => e.onBeacon c (inCurrent s j) b) s

/-- A BEACON of station j before any resync it brings: roster, alignment, membership, relay (R44; log 15). -/
def beaconFirst (c : Image) (j : Station) (b : BeaconBody) (s : State) : State :=
  let s1 := rosterBeacon c j b s
  let presence := (s1.roster[j]).presence
  relay presence b (memberBeacon j presence b (alignBeacon c j presence b s1))

/-- A BEACON of station j whose resync is taken first: the station is FREE and in LISTEN when the frame is taken, and
may adopt it at once (R81; log 15). -/
def resyncFirst (c : Image) (j : Station) (b : BeaconBody) (s : State) : State :=
  let s1 := rosterBeacon c j b s
  if resyncCause j (s1.roster[j]).presence b s1 then
    let s2 := rosterBeacon c j b (resync s1)
    alignBeacon c j (s2.roster[j]).presence b s2
  else beaconFirst c j b s

/-- A BEACON of station j, in this order against a resync at the same instant (R44, R81). -/
def takeBeacon (c : Image) (j : Station) (b : BeaconBody) (order : BeaconOrder) (s : State) : State :=
  match order with
  | .beaconFirst => beaconFirst c j b s
  | .resyncFirst => resyncFirst c j b s

/-- A PLAN of station j (R50, R129 to R132). -/
def takePlan (c : Image) (j : Station) (r : PlanRecord) (s : State) : State :=
  judgePlan c r (updateEntry j (fun e => e.onPlan (inCurrent s j)) s)

/-- A group trip is asked for by a member, may be taken, and is honoured (R169). -/
def groupTrips (c : Image) (inCur : Bool) (b : FaultBody) (s : State) : Bool :=
  b.gtrip && inCur && inGroup s.member.state && c.honourTrip

/-- A FAULT of station j (R51, R169). -/
def takeFault (c : Image) (j : Station) (b : FaultBody) (s : State) : State :=
  let s1 := raise .peerFault (updateEntry j (fun e => e.onFault (inCurrent s j) b) s)
  if groupTrips c (inCurrent s j) b s then latch .group false s1 else s1

/-- A LEAVE of station j (R52). -/
def takeLeave (j : Station) (b : LeaveBody) (s : State) : State :=
  updateEntry j (fun e => e.onLeave (inCurrent s j) b) s

/-- A valid frame ends: it is counted, and one of the own number is a clash (R34, R35); any other goes to the blocks. -/
def deliver (c : Image) (f : Frame) (order : BeaconOrder) (s : State) : State :=
  let s1 := endFrame s
  if f.src = c.station then clash s1
  else match f.body with
    | .beacon b => takeBeacon c f.src b order s1
    | .plan r => takePlan c f.src r s1
    | .fault b => takeFault c f.src b s1
    | .leave b => takeLeave f.src b s1

end Sys2Proof.Machine
end

