-- ==== Sys2Proof/Machine/OwnClock.lean ====
section
/-! DEFINITION. What the station does by itself: the steps that are due at an instant, the tick that follows when none is
left, and the run of both up to the instant of a timed command (log 2, log 3, log 4). -/

namespace Sys2Proof.Machine

/-! ### The own steps -/

/-- A step that the station makes by itself: whether it is due now, what it does, and the command that names it. -/
structure OwnStep where
  due : Bool
  act : State → State
  command : Instr

/-- A line's sample is due (R157). -/
def sampleDue (c : Image) (l : FaultLine) (s : State) : Bool :=
  (c.line l).sample ≤ (s.mon.line l).phase

/-- The boundary of the cycle that ends at this tick (R3). -/
def boundarySteps (c : Image) (s : State) : List OwnStep :=
  [⟨s.timer.atEnd, boundary c [], .cycleBoundary []⟩]

/-- The silence limits (R53). -/
def silenceSteps (c : Image) (s : State) : List OwnStep :=
  stations.map fun j => ⟨silenceDue c s j, takeSilence c j, .silenceLimit j⟩

/-- The works of a boundary that have rows of their own. -/
def boundaryWorks (c : Image) (s : State) : List OwnStep :=
  silenceSteps c s ++
  [⟨applyDue s, takeApply c, .planApply⟩,
   ⟨listenDue c s, takeListenEnd c, .listenWindowEnd⟩,
   ⟨joinDue c s, takeJoinEnd c, .joinWindowEnd⟩,
   ⟨drainDue c s, takeDrainEnd c, .drainWindowEnd⟩,
   ⟨trimDue s, takeTrimEnd, .trimWindowEnd⟩,
   ⟨issueDue s, takeIssue c, .planIssue⟩]

/-- The command that names the delivery of a frame. -/
def frameCommand (c : Image) (f : Frame) : Instr :=
  if f.src = c.station then .clashFrame f.body
  else match f.body with
    | .beacon b => .beacon f.src ⟨b, .beaconFirst⟩
    | .plan r => .plan f.src r
    | .fault b => .fault f.src b
    | .leave b => .leaveFrame f.src b

/-- The steps of the generator (R139, R142, R143) and the beacon point (R36). -/
def gateSteps (c : Image) (s : State) : List OwnStep :=
  [⟨intervalDue c s, endInterval, .intervalEnd⟩,
   ⟨phaseDue s, reachPhasePoint c, .phasePoint⟩,
   ⟨heldDue c s, takeHeld c, .heldPhasePoint⟩,
   ⟨beaconDue s, beaconNow, .beaconPoint⟩]

/-- The steps of the link that the samples of the line bring (R28, R31, R32, R33). -/
def sampledSteps (c : Image) (s : State) : List OwnStep :=
  [⟨yieldDue c s, yieldNow c ⟨lastBit s, []⟩, .yieldAt ⟨lastBit s, []⟩⟩,
   ⟨glitchDue s, glitchNow, .startBitGlitch⟩,
   ⟨errorDue c s, frameErrorNow, .receivedFrameError s.link.rxBits⟩] ++
  match frameEnded c s with
  | none => []
  | some f => [⟨true, fun t => deliver c f .beaconFirst t, frameCommand c f⟩]

/-- The other steps of the link (R25, R26, R31). -/
def linkSteps (c : Image) (s : State) : List OwnStep :=
  [⟨completeDue c s, completeNow, .frameComplete⟩,
   ⟨edgeDue s, takeEdge c [], .sofEdge []⟩,
   ⟨huntDue c s, enterHuntNow, .enterHunt⟩,
   ⟨launchDue c s, launchNow c, .launch⟩]

/-- The samples of the fault lines, at the level each line last read (R157, log 2). -/
def lineSteps (c : Image) (s : State) : List OwnStep :=
  [⟨sampleDue c .flta s, sampleNow c .flta s.mon.a.pin, .lineSample .flta s.mon.a.pin⟩,
   ⟨sampleDue c .fltb s, sampleNow c .fltb s.mon.b.pin, .lineSample .fltb s.mon.b.pin⟩]

/-- All own steps, in the order in which the own clock takes those of one instant (log 2). -/
def ownSteps (c : Image) (s : State) : List OwnStep :=
  boundarySteps c s ++ boundaryWorks c s ++ gateSteps c s ++ sampledSteps c s ++ linkSteps c s ++ lineSteps c s

/-- The own step that comes next at this instant, if any is due. -/
def nextOwn (c : Image) (s : State) : Option OwnStep :=
  (ownSteps c s).find? OwnStep.due

/-- A work of a boundary is due, so that no frame is taken before it (log 4). -/
def worksDue (c : Image) (s : State) : Bool :=
  (boundaryWorks c s).any OwnStep.due

/-- The station goes on by itself: the own step that is due, or the next tick. -/
def goOn (c : Image) (s : State) : State :=
  match nextOwn c s with
  | some x => x.act s
  | none => tick c s

/-! ### Timed commands (log 3) -/

/-- The most own steps and ticks that a timed command waits for. -/
def horizon : Nat :=
  65536

/-- The station goes on by itself until `due` holds; none when `possible` fails first, or the horizon is reached. -/
def runTo (c : Image) (due possible : State → Bool) : Nat → State → Option State
  | 0, s => if due s then some s else none
  | n + 1, s => if due s then some s else if possible s then runTo c due possible n (goOn c s) else none

/-- A command whose instant is the first at which `due` holds, counted from `start`: it acts there; one whose instant
cannot come changes nothing (log 1). -/
def reach (c : Image) (due possible : State → Bool) (act : State → State) (start s : State) : State :=
  match runTo c due possible horizon start with
  | none => s
  | some t => act t

/-- A step that the station's own counters time. -/
def timed (c : Image) (due possible : State → Bool) (act : State → State) (s : State) : State :=
  reach c due possible act s s

/-- What comes in at a SOF edge: in HUNT the other stations send these bits from now on; a receiver that follows a frame
already has its bits from the line (log 6). -/
def received (c : Image) (bits : List Bool) (due possible : State → Bool) (act : State → State) (s : State) : State :=
  reach c due possible act (if s.link.rx = .hunt then takeEdge c bits s else s) s

end Sys2Proof.Machine
end

