-- ==== Sys2Proof/Machine/Boundary.lean ====
section
/-! DEFINITION. The meanings of CYCLE_BOUNDARY and of the steps that belong to a boundary or to a counter value:
TRIM_WINDOW_END, SILENCE_LIMIT, BEACON_POINT, PLAN_ISSUE, PLAN_APPLY and the three window ends. -/

namespace Sys2Proof.Machine

/-- CYCLE_BOUNDARY (R3): at the tick that ends the cycle in progress. -/
def execCycleBoundary (order : List BoundaryWork) (s : State) : Result :=
  .next (s.configured fun c => timed c (·.timer.atEnd) (fun _ => true) (boundary c order) s)

/-- TRIM_WINDOW_END (R77). -/
def execTrimWindowEnd (s : State) : Result :=
  .next (s.configured fun _ => takeTrimEnd s)

/-- SILENCE_LIMIT (R53) of entry j. -/
def execSilenceLimit (j : Station) (s : State) : Result :=
  .next (s.configured fun c => takeSilence c j s)

/-- A beacon point of this cycle is still to be served (R36). -/
def beaconAhead (s : State) : Bool :=
  s.link.beaconPoint.isSome && !s.link.beaconDone

/-- BEACON_POINT (R36, R37). -/
def execBeaconPoint (s : State) : Result :=
  .next (s.configured fun c => timed c beaconDue beaconAhead beaconNow s)

/-- PLAN_ISSUE (R126). -/
def execPlanIssue (s : State) : Result :=
  .next (s.configured fun c => takeIssue c s)

/-- PLAN_APPLY (R134). -/
def execPlanApply (s : State) : Result :=
  .next (s.configured fun c => takeApply c s)

/-- LISTEN_WINDOW_END (R92). -/
def execListenWindowEnd (s : State) : Result :=
  .next (s.configured fun c => takeListenEnd c s)

/-- JOIN_WINDOW_END (R93). -/
def execJoinWindowEnd (s : State) : Result :=
  .next (s.configured fun c => takeJoinEnd c s)

/-- DRAIN_WINDOW_END (R99). -/
def execDrainWindowEnd (s : State) : Result :=
  .next (s.configured fun c => takeDrainEnd c s)

end Sys2Proof.Machine
end

