-- ==== Sys2Proof/Machine/LoaderOps.lean ====
section
/-! DEFINITION. The Configuration Loader: the image's layout (R176), its CRC (R177) and checks (R178), the two-wire
transfer (R179), the start of a load (R182), acceptance (R183) and refusal (R184). -/

namespace Sys2Proof.Machine

/-! ### The image (R176) -/

/-- Byte i of the image. -/
def byteAt (img : List Byte) (i : Nat) : Nat :=
  (img.getD i 0).toNat

/-- The 16-bit field at bytes i and i + 1, high byte first. -/
def wordAt (img : List Byte) (i : Nat) : Nat :=
  256 * byteAt img i + byteAt img (i + 1)

/-- `len` bits of byte i, the lowest being bit `low`. -/
def bitsAt (img : List Byte) (i low len : Nat) : Nat :=
  byteAt img i / 2 ^ low % 2 ^ len

/-- MODE codes. -/
def modeOfCode : Nat → LineMode
  | 0 => .off
  | 1 => .cut
  | 2 => .hold
  | _ => .latch

/-- The settings of a fault line: byte 14 or 15. -/
def lineOf (img : List Byte) (i : Nat) : LineSettings where
  mode := modeOfCode (bitsAt img i 0 2)
  sample := 4 ^ bitsAt img i 2 2
  count := bitsAt img i 4 2 + 1
  groupTrip := bitsAt img i 6 1 == 1
  asserted := if bitsAt img i 7 1 = 1 then .high else .low

/-- The fields of an image. -/
def imageOf (img : List Byte) : Image where
  station := stationOfNat (bitsAt img 0 0 4)
  tickDiv := 2 ^ bitsAt img 0 4 2
  bitTime := 4 * 2 ^ bitsAt img 0 6 2
  p := wordAt img 1
  latency := bitsAt img 3 0 6
  activeLow := bitsAt img 3 6 1 == 1
  autoJoin := bitsAt img 3 7 1 == 1
  beaconInt := 2 ^ bitsAt img 4 0 3
  honourTrip := bitsAt img 4 3 1 == 1
  corrMax := byteAt img 5
  lockWin := byteAt img 6
  planLead := byteAt img 7
  maxMembers := byteAt img 8
  dta := byteAt img 9
  dtb := byteAt img 10
  otbMin := wordAt img 11
  walkStep := byteAt img 13
  flta := lineOf img 14
  fltb := lineOf img 15
  cutLimit := byteAt img 16
  initTrim := (BitVec.ofNat 8 (byteAt img 17)).toInt
  alertMask := BitVec.ofNat 16 (wordAt img 18)

/-! ### The checks (R177, R178) -/

/-- The image CRC: preset FFFFh, polynomial terms 1021h (R177). -/
def crc16 (bytes : List Byte) : BitVec 16 :=
  (byteBits bytes).foldl (crcStep 0x1021#16) 0xFFFF#16

/-- Bytes 30 and 31 match the CRC of bytes 0 to 29 (R177). -/
def crcMatches (img : List Byte) : Bool :=
  (crc16 (img.take 30)).toNat == wordAt img 30

/-- The on-time ceiling of R146, computed from the image. -/
def imageCeiling (img : List Byte) : Int :=
  ceilingOf (wordAt img 1) (byteAt img 5) (byteAt img 13) (byteAt img 9) (byteAt img 10) (wordAt img 11)

/-- A value lies in a range. -/
def within (lo hi x : Nat) : Bool :=
  lo ≤ x && x ≤ hi

/-- The checks that can fail, in ascending order of field index (R176, R178). -/
def fieldChecks (img : List Byte) : List (Nat × Bool) :=
  [(4, within 256 3600 (wordAt img 1)),
   (8, bitsAt img 4 0 3 ≤ 5 && bitsAt img 4 4 4 == 0),
   (10, within 1 31 (byteAt img 5)),
   (11, within 1 31 (byteAt img 6)),
   (12, within 4 32 (byteAt img 7)),
   (13, within 2 16 (byteAt img 8)),
   (14, within 1 255 (byteAt img 9)),
   (15, within 1 255 (byteAt img 10)),
   (16, within 0 1023 (wordAt img 11)),
   (17, within (byteAt img 5) 255 (byteAt img 13)),
   (20, bitsAt img 16 6 2 == 0),
   (21, byteAt img 17 != 0x80),
   (23, ((img.drop 20).take 10).all (· == 0x00#8)),
   (24, 0 ≤ imageCeiling img)]

/-- The index of the first field that fails, if any (R178). -/
def firstFailure (img : List Byte) : Option Nat :=
  ((fieldChecks img).find? fun p => !p.2).map Prod.fst

/-! ### The transfer (R179) -/

/-- The address byte of the memory, 53h with the write or the read direction. -/
def memoryAddress (readBit : Bool) : Byte :=
  BitVec.ofNat 8 (2 * 0x53 + readBit.toNat)

/-- Bus clear pulses. -/
def busClear (pulses : Nat) : List WireEvent :=
  List.replicate pulses .pulse

/-- The address phase, each byte acknowledged. -/
def addressPhase : List WireEvent :=
  [.start, .send (memoryAddress false), .send 0x00#8, .start, .send (memoryAddress true)]

/-- The data phase: every byte but the last is acknowledged. -/
def dataPhase : List Byte → List WireEvent
  | [] => [.stop]
  | [b] => [.read b false, .stop]
  | b :: rest => .read b true :: dataPhase rest

/-- What a failed attempt did on the lines: the bus clear, and as far as it came the address phase. -/
def failedWire : AttemptFailure → List WireEvent
  | .stuckLow => busClear 9
  | .noAckWriteAddress pulses => busClear pulses ++ addressPhase.take 2 ++ [.stop]
  | .noAckWordAddress pulses => busClear pulses ++ addressPhase.take 3 ++ [.stop]
  | .noAckReadAddress pulses => busClear pulses ++ addressPhase ++ [.stop]

/-- What a completed attempt did on the lines. -/
def readWire (pulses : Nat) (image : List Byte) : List WireEvent :=
  busClear pulses ++ addressPhase ++ dataPhase image

/-! ### Load states (R179, R180, R182) -/

/-- An attempt begins: READING, with the attempts used one higher (R180, R182). -/
def Loader.beginAttempt (l : Loader) : Loader :=
  { l with
    load := .reading
    attempt := l.attempt + 1
    buffer := []
    waited := 0
    wire := []
    diag := { l.diag with attempts := l.diag.attempts + 1 } }

/-- An attempt begins. -/
def beginAttempt (s : State) : State :=
  { s with loader := s.loader.beginAttempt }

/-- The loader at a refusal (R180, R184). -/
def Loader.refuse (l : Loader) (cause : DiagCause) (index : Option Nat) : Loader :=
  { l with load := .refused, diag := { l.diag with cause := cause, index := index } }

/-- The image is refused: CONFIG_ERROR, and the station stays UNCONFIGURED (R184). -/
def refuse (cause : DiagCause) (index : Option Nat) (s : State) : State :=
  raise .configError { s with loader := s.loader.refuse cause index }

/-! ### Acceptance (R183) -/

/-- The timer at the start of cycle 0 (R2). -/
def Timer.begin (t : Timer) (c : Image) : Timer :=
  { t with run := .running, divider := 0, counter := 0, seq := 0, length := c.p, corr := 0, trimTick := 0,
           trim := c.initTrim, acc := 0 }

/-- The link at acceptance (R40). -/
def Link.begin (l : Link) : Link :=
  { l with tx := .idle, rx := .settle, idle := 0 }

/-- Everything acceptance starts, with the first phase point due at once: φ is 0, the due sequence is 0 and so is the
counter (R183, R140). -/
def start (c : Image) (s : State) : State :=
  { s with
    timer := s.timer.begin c
    link := s.link.begin
    member := { s.member.enter .detached with clashHold := false }
    gen := { s.gen with ceiling := (ceilingOf c.p c.corrMax c.walkStep c.dta c.dtb c.otbMin).toNat }
    mon := { s.mon with run := .running }
    loader := { s.loader with load := .accepted, config := some c }
    port := { s.port with mask := c.alertMask } }

/-- Acceptance: the station starts, and AUTOJOIN takes the JOIN path (R183, R85). It raises no event. The first phase
point is the step PHASE_POINT, due at this instant and taken before time moves; it takes the demand by R145 (R140,
log 14). -/
def accept (c : Image) (s : State) : State :=
  let s1 := start c s
  if c.autoJoin then joinPath s1 else s1

/-- The checks decide at the stop condition after a completed data phase (R177, R178, R179). -/
def judgeImage (image : List Byte) (s : State) : State :=
  if !crcMatches image then refuse .badCrc none s
  else match firstFailure image with
    | some index => refuse .badField (some index) s
    | none => accept (imageOf image) s

/-! ### Resets that begin a load at once (R181, R182) -/

/-- RESTART: the reset, and a new load with its first attempt at once (R181, R182). -/
def restart (s : State) : State :=
  beginAttempt (resetBy .restart .closed s)

end Sys2Proof.Machine
end

