-- ==== Sys2Proof/Machine/PortOps.lean ====
section
/-! DEFINITION. The Control Port: record layouts (R199), and a transaction edge by edge (R185 to R198). -/

namespace Sys2Proof.Machine

/-! ### Record layouts (R199) -/

/-- A byte. -/
def toByte (n : Nat) : Byte :=
  BitVec.ofNat 8 n

/-- A 16-bit value, high byte first (R188). -/
def word16 (v : BitVec 16) : List Byte :=
  [v.extractLsb' 8 8, v.extractLsb' 0 8]

/-- A number of up to 16 bits, high byte first. -/
def nat16 (n : Nat) : List Byte :=
  word16 (BitVec.ofNat 16 n)

/-- A signed value in two's complement, high byte first. -/
def int16 (x : Int) : List Byte :=
  word16 (BitVec.ofInt 16 x)

/-- Reset cause codes. -/
def causeCode : ResetCause → Nat
  | .power => 0
  | .pin => 1
  | .restart => 2

/-- Diagnosis cause codes. -/
def diagCode : DiagCause → Nat
  | .none => 0
  | .noMemory => 1
  | .badCrc => 2
  | .badField => 3

/-- Presence codes. -/
def presenceCode : Presence → Nat
  | .absent => 0
  | .heard => 1
  | .member => 2
  | .silent => 3
  | .departed => 4
  | .excluded => 5

/-- Reported state codes; 3 for none. -/
def reportedField : Option Reported → Nat
  | none => 3
  | some r => reportedCode r

/-- Origin codes; 0 when absent. -/
def originField : Option Origin → Nat
  | none => 0
  | some o => originCode o

/-- Bytes 1 to 3 of the status record: reset cause, diagnosis, present flags. -/
def statusHead (s : State) : List Byte :=
  let l := s.loader
  [toByte (causeCode l.cause + 4 * diagCode l.diag.cause + 16 * l.diag.attempts),
   toByte (l.diag.index.getD 0),
   toByte (s.plan.epoch.isSome.toNat + 2 * s.plan.set.isSome.toNat + 4 * s.plan.place.isSome.toNat +
     8 * s.plan.pending.isSome.toNat)]

/-- Bytes 4 to 10: the current allocation, each field 0 when absent. -/
def statusCurrent (p : PlanCtl) : List Byte :=
  [p.epoch.getD 0] ++ word16 (p.set.getD 0) ++
    [toByte ((p.place.map Place.rank).getD 0), toByte ((p.place.map Place.size).getD 0)] ++
    nat16 ((p.place.map Place.target).getD 0)

/-- Bytes 11 to 15: the pending plan, each field 0 when absent. -/
def statusPending : Option PlanRecord → List Byte
  | none => [0x00#8, 0x00#8, 0x00#8, 0x00#8, 0x00#8]
  | some r => [r.epoch, toByte r.issuer.val] ++ word16 r.members ++ [r.effSeq]

/-- Bytes 16 to 25: the generator. -/
def statusGen (g : Gen) : List Byte :=
  nat16 g.phi ++ nat16 g.held ++ nat16 g.staged.toNat ++ nat16 g.otaEff ++ nat16 g.ceiling

/-- Bytes 26 to 28: the Fault Monitor. -/
def statusMonitor (m : Monitor) : List Byte :=
  [toByte (m.a.asserted.toNat + 2 * m.b.asserted.toNat + 4 * m.cutForce.toNat + 8 * m.a.holdForce.toNat +
     16 * m.b.holdForce.toNat + 32 * m.latchForce.toNat + 64 * m.latch.isSome.toNat),
   toByte (originField m.latch),
   toByte (cutCount m.history)]

/-- The status record, 28 bytes, of the instant of the copy; before a due work of a boundary it is what the works taken
so far left, where R191 gives no order (log 27). -/
def statusRecord (s : State) : List Byte :=
  statusHead s ++ statusCurrent s.plan ++ statusPending s.plan.pending ++ statusGen s.gen ++ statusMonitor s.mon

/-- The alignment record, 8 bytes. Its c is the timer's at the instant of the copy; between CYCLE_BOUNDARY and a step of
the same instant that enters ACTIVE it is c before the limit of R4, where R5 leaves a reader's copy open (log 24), and
before a due TRIM_WINDOW_END T is that before the trim step (log 27). -/
def alignRecord (s : State) : List Byte :=
  int16 s.align.mean ++ int16 s.timer.corr ++ [BitVec.ofInt 8 s.timer.trim] ++ int16 s.timer.acc ++
    [toByte s.align.lockStreak]

/-- The roster record of an entry, 8 bytes. -/
def rosterRecord (e : Entry) : List Byte :=
  [toByte (presenceCode e.presence + 8 * reportedField e.reported + 32 * e.lock.toNat + 64 * e.deviation.isSome.toNat +
     128 * e.faultOrigin.isSome.toNat),
   e.lastSeq] ++ int16 (e.deviation.getD 0) ++
  [toByte e.silence, e.epoch, e.pendEpoch.getD 0,
   toByte (128 * e.pendEpoch.isSome.toNat + originField e.faultOrigin)]

/-! ### The eleven counters (R193) -/

/-- Counter i, in the order of the response. -/
def counterAt (s : State) : Nat → BitVec 16
  | 0 => s.link.framesTx
  | 1 => s.link.framesRx
  | 2 => s.link.rxErr
  | 3 => s.link.yields
  | 4 => s.link.txDrop
  | 5 => s.align.outliers
  | 6 => s.plan.issued
  | 7 => s.plan.conflict
  | 8 => s.plan.late
  | 9 => s.mon.cutCycles
  | 10 => s.mon.latches
  | _ => 0

/-- Counter i cleared to 0. -/
def clearCounter (s : State) : Nat → State
  | 0 => { s with link := { s.link with framesTx := 0 } }
  | 1 => { s with link := { s.link with framesRx := 0 } }
  | 2 => { s with link := { s.link with rxErr := 0 } }
  | 3 => { s with link := { s.link with yields := 0 } }
  | 4 => { s with link := { s.link with txDrop := 0 } }
  | 5 => { s with align := { s.align with outliers := 0 } }
  | 6 => { s with plan := { s.plan with issued := 0 } }
  | 7 => { s with plan := { s.plan with conflict := 0 } }
  | 8 => { s with plan := { s.plan with late := 0 } }
  | 9 => { s with mon := { s.mon with cutCycles := 0 } }
  | 10 => { s with mon := { s.mon with latches := 0 } }
  | _ => s

/-! ### A transaction (R185) -/

/-- The request codes of the table of R188. -/
inductive Request where
  | status
  | align
  | counters
  | countersClear
  | roster
  | events
  | demand
  | alertMask
  | command
  | undefined
  deriving DecidableEq, Repr

/-- The request a code selects (R188). -/
def requestOf (code : Byte) : Request :=
  if code = 0x01#8 then .status
  else if code = 0x02#8 then .align
  else if code = 0x03#8 then .counters
  else if code = 0x83#8 then .countersClear
  else if code = 0x04#8 then .roster
  else if code = 0x05#8 then .events
  else if code = 0x11#8 then .demand
  else if code = 0x12#8 then .alertMask
  else if code = 0x21#8 then .command
  else .undefined

/-- What the request field holds while a transaction of this code is open: a code of no row opens no request (R185). -/
def openRequest (code : Byte) : Option Byte :=
  if requestOf code = .undefined then none else some code

/-- The request of the open transaction. -/
def currentRequest (s : State) : Request :=
  match s.port.request with
  | none => .undefined
  | some code => requestOf code

/-- The response buffer is replaced. -/
def respond (bytes : List Byte) (s : State) : State :=
  { s with port := { s.port with response := bytes } }

/-- The copy of counter i joins the response (R193). -/
def copyCounter (i : Nat) (s : State) : State :=
  respond (s.port.response ++ word16 (counterAt s i)) s

/-- The copy of the roster entry at the pointer, which then advances (R194, R60). -/
def copyEntry (s : State) : State :=
  { s with port := { s.port with
    response := rosterRecord (readEntry s s.port.rosterPtr)
    rosterPtr := s.port.rosterPtr + 1 } }

/-- The snapshot of the event flags (R197). -/
def snapshot (s : State) : State :=
  { s with port := { s.port with response := word16 s.port.flags, marks := s.port.flags } }

/-- What happens as byte k after byte 0 begins (R188). -/
def beginWork (k : Nat) (s : State) : State :=
  match currentRequest s with
  | .status => if k = 1 then respond (statusRecord s) s else s
  | .align => if k = 1 then respond (alignRecord s) s else s
  | .counters => if k % 2 = 1 ∧ k ≤ 21 then copyCounter (k / 2) s else s
  | .countersClear => if k % 2 = 1 ∧ k ≤ 21 then clearCounter (copyCounter (k / 2) s) (k / 2) else s
  | .roster => if 2 ≤ k ∧ k % 8 = 2 then copyEntry s else s
  | .events => if k = 1 then snapshot s else s
  | .demand => s
  | .alertMask => s
  | .command => s
  | .undefined => s

/-- The byte shifted out as byte k after byte 0 (R188, R194). -/
def dataByte (k : Nat) (s : State) : Byte :=
  match currentRequest s with
  | .status => s.port.response.getD (k - 1) 0
  | .align => s.port.response.getD (k - 1) 0
  | .counters => s.port.response.getD (k - 1) 0
  | .countersClear => s.port.response.getD (k - 1) 0
  | .roster => if k = 1 then 0 else s.port.response.getD ((k - 2) % 8) 0
  | .events => s.port.response.getD (k - 1) 0
  | .demand => 0
  | .alertMask => 0
  | .command => 0
  | .undefined => 0

/-- The byte shifted out as byte k: the status byte, copied at the fall of CP_CS#, as byte 0 (R186). -/
def outByte (k : Nat) (s : State) : Byte :=
  if k = 0 then s.port.response.headD 0 else dataByte k s

/-- The bit of a byte at this place, the most significant first (R185). -/
def bitOf (b : Byte) (place : Nat) : Bool :=
  (natBits 8 b.toNat).getD place false

/-- The next bit of the byte in progress is presented on CP_SDO (R185). -/
def present (s : State) : State :=
  let n := s.port.sdi.length
  { s with port := { s.port with sdo := s.port.sdo ++ [bitOf (outByte (n / 8) s) (n % 8)] } }

/-- A falling edge of CP_SCK: after the last bit of a byte the next byte begins, and the next bit is presented, unless
it stands on CP_SDO already (R185, log 8). -/
def fallEdge (s : State) : State :=
  match s.port.txn with
  | .opened k =>
    if s.port.sdi.length < s.port.sdo.length then s
    else if k * 8 < s.port.sdi.length ∧ s.port.sdi.length % 8 = 0 then
      present (beginWork (k + 1) { s with port := { s.port with txn := .opened (k + 1) } })
    else present s
  | .closed => s
  | .ignored => s

/-- What happens as byte k completes: byte 0 selects the request, and ROSTER READ takes its start number from byte 1
(R185, R194). The response buffer, which held the status byte, is empty until the request's own copy (log 31). -/
def completeWork (k : Nat) (b : Byte) (s : State) : State :=
  if k = 0 then { s with port := { s.port with request := openRequest b, response := [] } }
  else if currentRequest s = .roster ∧ k = 1 then
    { s with port := { s.port with rosterPtr := stationOfNat b.toNat } }
  else s

/-- A rising edge of CP_SCK: a bit is taken from CP_SDI, and the eighth completes its byte (R185). -/
def riseEdge (bit : Bool) (s : State) : State :=
  match s.port.txn with
  | .opened k =>
    let s1 := { s with port := { s.port with sdi := s.port.sdi ++ [bit] } }
    if s1.port.sdi.length % 8 = 0 then completeWork k ((bytesOf s1.port.sdi).getLastD 0) s1 else s1
  | .closed => s
  | .ignored => s

/-- A period of CP_SCK: the falling edge that presents a bit, and the rising edge that takes one. -/
def clockBit (s : State) (bit : Bool) : State :=
  riseEdge bit (fallEdge s)

/-! ### The end of a transaction -/

/-- The 16-bit value of the first two data bytes. -/
def writtenWord (b1 b2 : Byte) : BitVec 16 :=
  b1 ++ b2

/-- DEMAND WRITE (R189). -/
def writeDemand (v : BitVec 16) (s : State) : State :=
  { s with gen := { s.gen with staged := v.setWidth 12 } }

/-- ALERT MASK WRITE (R190). -/
def writeMask (v : BitVec 16) (s : State) : State :=
  { s with port := { s.port with mask := v } }

/-- The clear of EVENTS READ-AND-CLEAR: flags of the mask whose mark is still set (R197). -/
def clearEvents (v : BitVec 16) (s : State) : State :=
  { s with port := { s.port with flags := s.port.flags &&& ~~~(v &&& s.port.marks) } }

/-- The command of a command byte (R195). -/
def runCommand (b : Byte) (s : State) : State :=
  if b = 0x01#8 then commandJoin s
  else if b = 0x02#8 then commandLeave s
  else if b = 0x03#8 then commandClear s
  else if b = 0x04#8 then restart s
  else s

/-- The bytes after byte 0 that are complete in the transaction (R185). -/
def dataBytes (p : Port) : List Byte :=
  (bytesOf p.sdi).drop 1

/-- What a request does at the end of its transaction, when its data bytes are complete (R185, R188). -/
def actAtEnd (s : State) : State :=
  match currentRequest s, dataBytes s.port with
  | .demand, b1 :: b2 :: _ => writeDemand (writtenWord b1 b2) s
  | .alertMask, b1 :: b2 :: _ => writeMask (writtenWord b1 b2) s
  | .events, b1 :: b2 :: _ => clearEvents (writtenWord b1 b2) s
  | .command, b :: _ => runCommand b s
  | _, _ => s

/-- The port after CP_CS# rises. The response buffer keeps the last copy, where R185 to R194 give its content for the
current response and after a reset only (log 31), and so do the bits of the transaction (log 13). -/
def Port.close (p : Port) : Port :=
  { p with txn := .closed, request := none }

/-- CP_CS# rises: an open transaction acts, and any transaction ends (R185, R187). -/
def closeTxn (s : State) : State :=
  match s.port.txn with
  | .opened _ =>
    let s1 := actAtEnd s
    { s1 with port := s1.port.close }
  | .ignored => { s with port := s.port.close }
  | .closed => s

/-- CP_CS# falls: byte 0 begins with a copy of the status byte, whose first bit is presented (R185, R186). A
transaction that was open ends first (log 8); while a reset is being taken the port takes nothing (R187, log 9). -/
def openTxn (s : State) : State :=
  let s0 := closeTxn s
  if s0.loader.load = .held then
    { s0 with port := { s0.port with txn := .ignored, request := none, response := [], sdi := [], sdo := [] } }
  else
    present { s0 with port := { s0.port with
      txn := .opened 0
      request := none
      response := [statusByte s0]
      sdi := []
      sdo := [] } }

/-- The edges of CP_SCK in a piece (R185). -/
def clockBits (x : Xfer) (s : State) : State :=
  let s1 := x.bits.foldl clockBit s
  if x.falls then fallEdge s1 else s1

/-- A piece belongs to the transaction in progress when the bits of byte 0, and of the command byte of a command, are
those of its row; a transaction that is IGNORED belongs to every piece (log 8). -/
def belongs (header : List Byte) (x : Xfer) (s : State) : Bool :=
  if x.opens then agrees (byteBits header) x.bits
  else match s.port.txn with
    | .opened _ => agrees (byteBits header) (s.port.sdi ++ x.bits)
    | .ignored => true
    | .closed => false

/-- A piece of a transaction whose first bytes are this header (R185). -/
def transfer (header : List Byte) (x : Xfer) (s : State) : State :=
  if belongs header x s then
    let s1 := clockBits x (if x.opens then openTxn s else s)
    if x.closes then closeTxn s1 else s1
  else s

end Sys2Proof.Machine
end

