-- ==== Sys2Proof/Machine/ControlPort.lean ====
section
/-! DEFINITION. The meanings of the control port's requests and commands. -/

namespace Sys2Proof.Machine

/-- STATUS_READ (R191). -/
def execStatusRead (x : Xfer) (s : State) : Result :=
  .next (transfer [0x01#8] x s)

/-- ALIGN_READ (R192). -/
def execAlignRead (x : Xfer) (s : State) : Result :=
  .next (transfer [0x02#8] x s)

/-- COUNTERS_READ (R193). -/
def execCountersRead (x : Xfer) (s : State) : Result :=
  .next (transfer [0x03#8] x s)

/-- COUNTERS_READ_WITH_CLEAR (R193). -/
def execCountersReadWithClear (x : Xfer) (s : State) : Result :=
  .next (transfer [0x83#8] x s)

/-- ROSTER_READ (R194). -/
def execRosterRead (x : Xfer) (s : State) : Result :=
  .next (transfer [0x04#8] x s)

/-- EVENTS_READ_AND_CLEAR (R197). -/
def execEventsReadAndClear (x : Xfer) (s : State) : Result :=
  .next (transfer [0x05#8] x s)

/-- DEMAND_WRITE (R189). -/
def execDemandWrite (x : Xfer) (s : State) : Result :=
  .next (transfer [0x11#8] x s)

/-- ALERT_MASK_WRITE (R190). -/
def execAlertMaskWrite (x : Xfer) (s : State) : Result :=
  .next (transfer [0x12#8] x s)

/-- UNDEFINED_REQUEST (R185, R195). -/
def execUndefinedRequest (code : Byte) (x : Xfer) (s : State) : Result :=
  .next (transfer [code] x s)

/-- JOIN (R89): command byte 01h. -/
def execJoin (x : Xfer) (s : State) : Result :=
  .next (transfer [0x21#8, 0x01#8] x s)

/-- LEAVE (R95, R97): command byte 02h. -/
def execLeave (x : Xfer) (s : State) : Result :=
  .next (transfer [0x21#8, 0x02#8] x s)

/-- CLEAR_FAULT (R171): command byte 03h. -/
def execClearFault (x : Xfer) (s : State) : Result :=
  .next (transfer [0x21#8, 0x03#8] x s)

/-- RESTART (R181): command byte 04h. -/
def execRestart (x : Xfer) (s : State) : Result :=
  .next (transfer [0x21#8, 0x04#8] x s)

end Sys2Proof.Machine
end

