-- ==== Sys2Proof/Machine/FaultLines.lean ====
section
/-! DEFINITION. The meaning of LINE_SAMPLE. -/

namespace Sys2Proof.Machine

/-- LINE_SAMPLE (R157 to R160, R163): a line's next sample reads this pin level. -/
def execLineSample (line : FaultLine) (pin : Level) (s : State) : Result :=
  .next (s.configured fun c => timed c (sampleDue c line) (fun _ => true) (sampleNow c line pin) s)

end Sys2Proof.Machine
end

