-- ==== Sys2Proof/Machine/Gate.lean ====
section
/-! DEFINITION. The meanings of PHASE_POINT, HELD_PHASE_POINT, INTERVAL_END and MARK_END. -/

namespace Sys2Proof.Machine

/-- PHASE_POINT (R139, R143). -/
def execPhasePoint (s : State) : Result :=
  .next (s.configured fun c => timed c phaseDue (!·.gen.hold) (reachPhasePoint c) s)

/-- HELD_PHASE_POINT (R143). -/
def execHeldPhasePoint (s : State) : Result :=
  .next (s.configured fun c => timed c (heldDue c) (·.gen.hold) (takeHeld c) s)

/-- INTERVAL_END (R142). -/
def execIntervalEnd (s : State) : Result :=
  .next (s.configured fun c =>
    timed c (intervalDue c) (fun t => (intervalLength c t.gen).isSome) endInterval s)

/-- MARK_END (R153): the pulse in progress runs to its end. -/
def execMarkEnd (s : State) : Result :=
  .next (s.configured fun c => timed c (·.gen.markCount == 0) (fun _ => true) id s)

end Sys2Proof.Machine
end

