-- ==== Sys2Proof/Machine/Loading.lean ====
section
/-! DEFINITION. The meanings of POWER_ON, RESET_PIN, LOAD_START, ATTEMPT_FAILED, RETRY_WAIT_END and IMAGE_CHECK. -/

namespace Sys2Proof.Machine

/-- POWER_ON (R181): every block returns to its reset values, and the cause is POWER. -/
def execPowerOn (s : State) : Result :=
  .next (resetBy .power s.port.txn.atReset s)

/-- RESET_PIN (R181): every block returns to its reset values, and the cause is PIN. -/
def execResetPin (s : State) : Result :=
  .next (resetBy .pin s.port.txn.atReset s)

/-- LOAD_START (R182): the reset ends and attempt 1 begins. -/
def execLoadStart (s : State) : Result :=
  .next (if s.loader.load = .held then beginAttempt s else s)

/-- The loader after a failed attempt, before the wait or the refusal (R179). -/
def Loader.fail (l : Loader) (why : AttemptFailure) : Loader :=
  { l with load := .retryWait, buffer := [], waited := 0, wire := failedWire why }

/-- The third failure refuses the image; an earlier one waits (R179). -/
def afterFailure (why : AttemptFailure) (s : State) : State :=
  let s1 := { s with loader := s.loader.fail why }
  if 3 ≤ s.loader.attempt then refuse .noMemory none s1 else s1

/-- ATTEMPT_FAILED (R179). -/
def execAttemptFailed (why : AttemptFailure) (s : State) : Result :=
  .next (if s.loader.load = .reading then afterFailure why s else s)

/-- RETRY_WAIT_END (R179): the next attempt begins. Given before the 65536 REFCLK periods have been counted, the rest of
the wait counts as passed, as for the other timed commands (log 3). -/
def execRetryWaitEnd (s : State) : Result :=
  .next (if s.loader.load = .retryWait then beginAttempt s else s)

/-- The loader with the image read whole (R179). -/
def Loader.fill (l : Loader) (pulses : Nat) (image : List Byte) : Loader :=
  { l with load := .checking, buffer := image, wire := readWire pulses image }

/-- IMAGE_CHECK (R177, R178): the image read decides between acceptance and refusal. -/
def execImageCheck (pulses : Nat) (image : List Byte) (s : State) : Result :=
  .next (if s.loader.load = .reading then judgeImage image { s with loader := s.loader.fill pulses image } else s)

end Sys2Proof.Machine
end

