-- ==== Sys2Proof/Machine/Receive.lean ====
section
/-! DEFINITION. The meanings of ENTER_HUNT, SOF_EDGE, START_BIT_GLITCH, RECEIVED_FRAME_ERROR, of the four delivered
frames BEACON, PLAN, FAULT and LEAVE_FRAME, and of CLASH_FRAME. -/

namespace Sys2Proof.Machine

/-- ENTER_HUNT (R31). -/
def execEnterHunt (s : State) : Result :=
  .next (s.configured fun c => timed c (huntDue c) (·.link.rx == .settle) enterHuntNow s)

/-- SOF_EDGE (R31): other stations send these bits from now on. -/
def execSofEdge (s : State) (bits : List Bool := []) : Result :=
  .next (s.configured fun c => takeEdge c bits s)

/-- START_BIT_GLITCH (R31): in HUNT the edge is one dominant tick. -/
def execStartBitGlitch (s : State) : Result :=
  .next (s.configured fun c =>
    reach c glitchDue (fun t => following t && t.link.rxBits.isEmpty) glitchNow
      (if s.link.rx = .hunt then takeDominant (othersSend [false] s) else s) s)

/-- These bits have been sampled, and the frame error they show is found now (R33). -/
def errorOf (c : Image) (bits : List Bool) (s : State) : Bool :=
  s.link.rxBits == bits && errorDue c s

/-- RECEIVED_FRAME_ERROR (R33), as these bits show it. -/
def execReceivedFrameError (bits : List Bool) (s : State) : Result :=
  .next (s.configured fun c => received c bits (errorOf c bits) (·.link.rx == .receiving) frameErrorNow s)

/-- This frame ends in the receiver, and no work of a boundary is left to come first (R32, log 4). -/
def frameDue (c : Image) (f : Frame) (s : State) : Bool :=
  frameEnded c s == some f && !worksDue c s

/-- A valid frame of another source is received up to its end and delivered (R32, R34). -/
def takeFrame (c : Image) (f : Frame) (order : BeaconOrder) (s : State) : State :=
  received c (frameBits f) (frameDue c f) (·.link.rx == .receiving) (deliver c f order) s

/-- A valid BEACON (R44), in this order against a resync it brings (R81). -/
def execBeacon (src : Station) (b : DeliveredBeacon) (s : State) : Result :=
  .next (s.configured fun c => takeFrame c ⟨src, .beacon b.body⟩ b.order s)

/-- A valid PLAN (R130). -/
def execPlan (src : Station) (r : PlanRecord) (s : State) : Result :=
  .next (s.configured fun c => takeFrame c ⟨src, .plan r⟩ .beaconFirst s)

/-- A valid FAULT (R169). -/
def execFault (src : Station) (b : FaultBody) (s : State) : Result :=
  .next (s.configured fun c => takeFrame c ⟨src, .fault b⟩ .beaconFirst s)

/-- A valid LEAVE (R52). -/
def execLeaveFrame (src : Station) (b : LeaveBody) (s : State) : Result :=
  .next (s.configured fun c => takeFrame c ⟨src, .leave b⟩ .beaconFirst s)

/-- CLASH_FRAME (R35): a valid frame of the own number. -/
def execClashFrame (body : FrameBody) (s : State) : Result :=
  .next (s.configured fun c => takeFrame c ⟨c.station, body⟩ .beaconFirst s)

end Sys2Proof.Machine
end

