-- ==== Sys2Proof/Machine/Transmit.lean ====
section
/-! DEFINITION. The meanings of LAUNCH, YIELD, LINE_FAULT and FRAME_COMPLETE. -/

namespace Sys2Proof.Machine

/-- LAUNCH (R25). -/
def execLaunch (s : State) : Result :=
  .next (s.configured fun c => timed c (launchDue c) (·.link.tx == .defer) (launchNow c) s)

/-- YIELD (R28) at this sample; the SOF is no bit to yield at. -/
def execYield (y : YieldSample) (s : State) : Result :=
  .next (s.configured fun c =>
    if y.bit = 0 then s else timed c (sampleOf c y.bit true) (sampleAhead c y.bit true) (yieldNow c y) s)

/-- LINE_FAULT (R30) at this bit. -/
def execLineFault (bit : Nat) (s : State) : Result :=
  .next (s.configured fun c => timed c (sampleOf c bit false) (sampleAhead c bit false) lineFaultNow s)

/-- FRAME_COMPLETE (R26). -/
def execFrameComplete (s : State) : Result :=
  .next (s.configured fun c => timed c (completeDue c) (·.link.tx == .sending) completeNow s)

end Sys2Proof.Machine
end

