-- ==== Sys2Proof/Machine/Dispatch.lean ====
section
/-! DEFINITION. exec: one arm for each command, each a call of its meaning. -/

namespace Sys2Proof.Machine

/-- The effect of a command on everything but the queue. -/
def exec (i : Instr) (s : State) : Host.Outcome State Fault Refusal :=
  match i with
  | .powerOn => Sys2Proof.Machine.execPowerOn s
  | .resetPin => Sys2Proof.Machine.execResetPin s
  | .loadStart => Sys2Proof.Machine.execLoadStart s
  | .attemptFailed why => Sys2Proof.Machine.execAttemptFailed why s
  | .retryWaitEnd => Sys2Proof.Machine.execRetryWaitEnd s
  | .imageCheck pulses image => Sys2Proof.Machine.execImageCheck pulses image s
  | .cycleBoundary order => Sys2Proof.Machine.execCycleBoundary order s
  | .trimWindowEnd => Sys2Proof.Machine.execTrimWindowEnd s
  | .silenceLimit j => Sys2Proof.Machine.execSilenceLimit j s
  | .beaconPoint => Sys2Proof.Machine.execBeaconPoint s
  | .planIssue => Sys2Proof.Machine.execPlanIssue s
  | .planApply => Sys2Proof.Machine.execPlanApply s
  | .listenWindowEnd => Sys2Proof.Machine.execListenWindowEnd s
  | .joinWindowEnd => Sys2Proof.Machine.execJoinWindowEnd s
  | .drainWindowEnd => Sys2Proof.Machine.execDrainWindowEnd s
  | .launch => Sys2Proof.Machine.execLaunch s
  | .yieldAt sample => Sys2Proof.Machine.execYield sample s
  | .lineFault bit => Sys2Proof.Machine.execLineFault bit s
  | .frameComplete => Sys2Proof.Machine.execFrameComplete s
  | .enterHunt => Sys2Proof.Machine.execEnterHunt s
  | .beacon src b => Sys2Proof.Machine.execBeacon src b s
  | .plan src body => Sys2Proof.Machine.execPlan src body s
  | .fault src body => Sys2Proof.Machine.execFault src body s
  | .leaveFrame src body => Sys2Proof.Machine.execLeaveFrame src body s
  | .phasePoint => Sys2Proof.Machine.execPhasePoint s
  | .heldPhasePoint => Sys2Proof.Machine.execHeldPhasePoint s
  | .intervalEnd => Sys2Proof.Machine.execIntervalEnd s
  | .markEnd => Sys2Proof.Machine.execMarkEnd s
  | .lineSample line pin => Sys2Proof.Machine.execLineSample line pin s
  | .statusRead x => Sys2Proof.Machine.execStatusRead x s
  | .alignRead x => Sys2Proof.Machine.execAlignRead x s
  | .countersRead x => Sys2Proof.Machine.execCountersRead x s
  | .countersReadWithClear x => Sys2Proof.Machine.execCountersReadWithClear x s
  | .rosterRead x => Sys2Proof.Machine.execRosterRead x s
  | .eventsReadAndClear x => Sys2Proof.Machine.execEventsReadAndClear x s
  | .demandWrite x => Sys2Proof.Machine.execDemandWrite x s
  | .alertMaskWrite x => Sys2Proof.Machine.execAlertMaskWrite x s
  | .undefinedRequest code x => Sys2Proof.Machine.execUndefinedRequest code x s
  | .join x => Sys2Proof.Machine.execJoin x s
  | .leave x => Sys2Proof.Machine.execLeave x s
  | .clearFault x => Sys2Proof.Machine.execClearFault x s
  | .restart x => Sys2Proof.Machine.execRestart x s
  | .sofEdge bits => Sys2Proof.Machine.execSofEdge s bits
  | .startBitGlitch => Sys2Proof.Machine.execStartBitGlitch s
  | .receivedFrameError bits => Sys2Proof.Machine.execReceivedFrameError bits s
  | .clashFrame body => Sys2Proof.Machine.execClashFrame body s

end Sys2Proof.Machine
end

