-- ==== Sys2Proof/Machine/Step.lean ====
section
/-! DEFINITION. The step: the command at the front of the queue, or, on an empty queue, the own step that is due now, or
else one REFCLK period (R1, R3; log 2). -/

namespace Sys2Proof.Machine

/-! ### What is due at the present instant (log 2) -/

/-- The wait between read attempts has run out (R179). -/
def retryDue (s : State) : Bool :=
  s.loader.load == .retryWait && 65536 ≤ s.loader.waited

/-- The command that names the own step which is due now, if any. -/
def dueNow (s : State) : Option Instr :=
  match s.loader.config with
  | none => if retryDue s then some .retryWaitEnd else none
  | some c => (nextOwn c s).map OwnStep.command

/-! ### One REFCLK period (R1, R3) -/

/-- A REFCLK period of a station whose timer is STOPPED: only the wait between read attempts counts it (R179). -/
def waitPeriod (s : State) : State :=
  if s.loader.load = .retryWait then { s with loader := { s.loader with waited := s.loader.waited + 1 } } else s

/-- The divider counts a period that completes no tick (R1). -/
def dividePeriod (s : State) : State :=
  { s with timer := { s.timer with divider := s.timer.divider + 1 } }

/-- One REFCLK period: the divider counts, or a tick passes (R1). -/
def clock (s : State) : State :=
  match s.loader.config with
  | none => waitPeriod s
  | some c => if s.timer.divider + 1 < c.tickDiv then dividePeriod s else tick c s

/-- A step on an empty queue. -/
def idleStep (s : State) : Result :=
  match dueNow s with
  | some i => exec i s
  | none => .next (clock s)

/-- The command at the front of the queue on the state with the queue's rest; the own clock when none waits. -/
def step (s : State) : Host.Outcome State Fault Refusal :=
  match s.pending with
  | [] => idleStep s
  | i :: rest => exec i { s with pending := rest }

/-- The command a table word spells, put at the front of the queue. The table gives no row any bits. -/
def State.withFetchWord (s : State) (nbits w : Nat) : State :=
  match decodeTableWord nbits w with
  | none => s
  | some i => { s with pending := i :: s.pending }

end Sys2Proof.Machine
end

