-- ==== Sys2Proof/Safety.lean ====
section
/-! DEFINITION. What the statements are made of: the premises they put on a state, and the invariants that every step
keeps. -/

namespace Sys2Proof.Safety

open Sys2Proof.Machine

/-! ### Premises -/

/-- The image in force is `c` (R183). -/
abbrev Configured (c : Image) (s : State) : Prop :=
  s.loader.config = some c

/-- No work of the present boundary is left that must come before a frame is taken (log 4). -/
structure Settled (c : Image) (s : State) : Prop where
  silence : ∀ j, silenceDue c s j = false
  apply : applyDue s = false
  listen : listenDue c s = false
  joinEnd : joinDue c s = false
  drain : drainDue c s = false
  trim : trimDue s = false
  issue : issueDue s = false

/-- This frame of another source stands at its end in the receiver, which has sampled its bits (R32). -/
structure AtFrameEnd (c : Image) (f : Frame) (s : State) : Prop where
  configured : Configured c s
  settled : Settled c s
  rx : s.link.rx = .receiving
  tx : s.link.tx ≠ .sending
  bits : judge s.link.rxBits = .valid f
  age : s.timer.captureAge = frameLength f * c.bitTime

/-- The tick that ends the cycle has come to a configured station, and its boundary is still to be taken (R3). -/
structure AtCycleEnd (c : Image) (s : State) : Prop where
  configured : Configured c s
  ended : s.timer.atEnd = true

/-- The own transmitter sends this frame (R25). -/
structure Sending (c : Image) (f : InFlight) (s : State) : Prop where
  configured : Configured c s
  tx : s.link.tx = .sending
  flight : s.link.inFlight = some f

/-- The entry that would join the cut history at the next phase point brings the cut count to CUTLIMIT, counted with
what a latch of the present instant emptied (R165, R167, log 28), by R164 where R165 differs from it (log 29). It is
so at every entry of a history at the limit, while latched too (log 30). -/
abbrev Escalating (c : Image) (s : State) : Prop :=
  c.cutLimit ≠ 0 ∧ c.cutLimit ≤ cutCount (joinHistory s.mon.standing s.mon.entry)

/-- The station takes transactions and none is open (R185, R187). -/
structure PortReady (s : State) : Prop where
  closed : s.port.txn = .closed
  running : s.loader.load ≠ .held

/-- A whole transaction: CP_CS# falls, these bytes are clocked, the request code first, and CP_CS# rises (R185). -/
def whole (bytes : List Byte) : Xfer :=
  ⟨true, byteBits bytes, false, true⟩

/-- The link once a valid frame of another source has ended (R32, R34, R38). -/
def Received (l : Link) : Link :=
  { l with rx := .hunt, rxBits := [], idle := 0, framesRx := countUp l.framesRx }

/-- The blocks that a command of the Control Port alone leaves as they are. -/
structure SameStation (s t : State) : Prop where
  timer : t.timer = s.timer
  link : t.link = s.link
  roster : t.roster = s.roster
  align : t.align = s.align
  member : t.member = s.member
  plan : t.plan = s.plan
  gen : t.gen = s.gen
  mon : t.mon = s.mon
  loader : t.loader = s.loader
  line : t.line = s.line
  pending : t.pending = s.pending

/-- The port after a whole transaction of these bytes, which shifts out the status byte and then these, but for what the
request itself did to it. -/
structure PortAfter (s t : State) (bytes shifted : List Byte) : Prop where
  txn : t.port.txn = .closed
  request : t.port.request = none
  received : t.port.sdi = byteBits bytes
  shifted : t.port.sdo = byteBits (statusByte s :: shifted)

/-! ### Invariants -/

/-- The loader: an image is in force exactly in ACCEPTED, and only then is the station more than UNCONFIGURED (R84,
R183). -/
structure LoadSound (s : State) : Prop where
  accepted : s.loader.config.isSome = true ↔ s.loader.load = .accepted
  unconfigured : s.loader.config = none → s.member.state = .unconfigured

/-- The latch record is present exactly while the station is FAULTED (R166, R186). -/
structure LatchSound (s : State) : Prop where
  load : LoadSound s
  latch : s.mon.latch.isSome = true ↔ s.member.state = .faulted

/-- The timer's ranges (R3, R4, R6, R7), with the image's ranges they rest on (R176). A station without an image is at
no cycle's end, since its timer is STOPPED (R2). -/
structure TimerSound (s : State) : Prop where
  load : LoadSound s
  stopped : s.loader.config = none → s.timer.atEnd = false
  image : ∀ c, s.loader.config = some c →
    256 ≤ c.p ∧ c.p ≤ 3600 ∧ 1 ≤ c.corrMax ∧ c.corrMax ≤ 31 ∧ -127 ≤ c.initTrim ∧ c.initTrim ≤ 127
  trim : -127 ≤ s.timer.trim ∧ s.timer.trim ≤ 127
  acc : -1023 ≤ s.timer.acc ∧ s.timer.acc ≤ 1023
  trimTick : -1 ≤ s.timer.trimTick ∧ s.timer.trimTick ≤ 1
  length : ∀ c, s.loader.config = some c →
    (c.p : Int) - (c.p / 8 : Nat) - 1 ≤ s.timer.length ∧ (s.timer.length : Int) ≤ c.p + (c.p / 8 : Nat) + 1
  counter : s.loader.config.isSome = true → s.timer.counter < s.timer.length
  atEnd : s.timer.atEnd = true → s.timer.counter + 1 = s.timer.length

/-- The current allocation: rank, size and target are those of the current set, and an ACTIVE or DRAINING station is in
it (R87, R115). -/
structure GroupSound (s : State) : Prop where
  load : s.loader.config.isSome = true → s.loader.load = .accepted
  empty : s.loader.config = none → s.plan.set = none ∧ s.plan.place = none ∧ s.member.state = .unconfigured
  place : ∀ c, s.loader.config = some c → s.plan.place = s.plan.set.bind fun m => placeIn c.p m c.station
  own : ∀ c, s.loader.config = some c → inGroup s.member.state = true →
    ∃ m, s.plan.set = some m ∧ inSet m c.station = true

/-- A request's retry count lies within 0..7 (R28). -/
def retryInRange {α : Type} (q : Option (Slot α)) : Prop :=
  ∀ x, q = some x → x.retry ≤ 7

/-- The link: a frame is in flight exactly in SENDING, DEFER means that a request waits and IDLE that none does, no
retry count passes 7, the own frame is followed by the receiver, and a frame being received has its capture (R23, R25,
R28, R31, R9). -/
structure TransmitSound (s : State) : Prop where
  load : LoadSound s
  off : s.loader.config = none → s.link.tx = .off ∧ s.link.waiting = false
  flight : s.link.inFlight.isSome = true ↔ s.link.tx = .sending
  defer : s.link.tx = .defer → s.link.waiting = true
  idle : s.link.tx = .idle → s.link.waiting = false
  slot : ∀ f, s.link.inFlight = some f → f.holdsSlot = true →
    (match bodyKind f.frame.body with
      | .fault => s.link.qFault.isSome
      | .leave => s.link.qLeave.isSome
      | .plan => s.link.qPlan.isSome
      | .beacon => s.link.qBeacon.isSome) = true
  follows : s.link.tx = .sending → s.link.rx = .receiving
  capture : s.link.rx = .receiving → s.timer.capture.isSome = true
  retries : retryInRange s.link.qFault ∧ retryInRange s.link.qLeave ∧ retryInRange s.link.qPlan ∧
    retryInRange s.link.qBeacon

/-- The gate side: OTA_eff within the ceiling (R145), at most 64 entries of history (R164), none beside those that a
latch of the present instant emptied (R166), MARK only in ACTIVE (R153). -/
structure GateSound (s : State) : Prop where
  load : LoadSound s
  demand : s.gen.otaEff ≤ s.gen.ceiling
  history : s.mon.history.length ≤ 64
  emptied : s.mon.emptied = [] ∨ s.mon.history = []
  mark : 0 < s.gen.markCount → s.member.state = .active

end Sys2Proof.Safety
end

