-- ==== Sys2Proof/Certificates/Slice0/Obligations.lean ====
section
/-! DEFINITION. The statements for the provers. A statement whose right-hand side is a whole state says in the same line
what the command changes and that everything else stays. -/

open Sys2Proof Sys2Proof.Machine Sys2Proof.Safety

/-! ### The step -/

/-- A step with a command in front is that command on the state with the queue's rest (log 2). -/
def Obligations.StepTakesTheFrontCommand : Prop :=
  ∀ (s : State) (i : Instr) (rest : List Instr), s.pending = i :: rest →
    step s = exec i { s with pending := rest }

/-- With no command waiting, a step is the own step that is due, the boundary first, or one REFCLK period: the divider
counts, or a tick passes, at which the cycle counter advances or the cycle ends, the link reads the line for the idle
count and the mid-bit samples, and every count of ticks moves (R1, R3, R9, R16, R17, R18, R32, R142, R153, R157).
Without an image no tick is counted: a REFCLK period counts the wait between read attempts alone, and once 65536 of them
have been counted the next attempt begins (R2, R179, R182). The clock on an empty queue, the boundary that waits for its
step, the count kept of the wait, the transfer that waits for its command, and the age before a first capture are the
model's (log 2, log 3, log 13, log 16, log 25), and so is the history kept for the instant of a latch (log 28). -/
def Obligations.EmptyQueueRunsTheClock : Prop :=
  (∀ (c : Image) (s : State), Configured c s → s.pending = [] →
      (∀ i, dueNow s = some i → step s = exec i s) ∧
      (s.timer.atEnd = true → dueNow s = some (.cycleBoundary [])) ∧
      (dueNow s = none → s.timer.divider + 1 < c.tickDiv →
        step s = .next { s with timer := { s.timer with divider := s.timer.divider + 1 } }) ∧
      (dueNow s = none → s.timer.divider + 1 = c.tickDiv →
        let ends := decide (s.timer.length ≤ s.timer.counter + 1)
        ∃ t, step s = .next t ∧
          t.timer = { s.timer with
            divider := 0
            counter := if ends then s.timer.counter else s.timer.counter + 1
            atEnd := ends
            captureAge := min (s.timer.captureAge + 1) 65535 } ∧
          t.line = s.line.tail ∧
          t.link = { s.link with idle := t.link.idle, rxBits := t.link.rxBits } ∧
          (s.link.rx = .settle ∨ s.link.rx = .hunt →
            t.link.idle = (if pbRecessive t then min (s.link.idle + 1) 832 else 0) ∧
            t.link.rxBits = s.link.rxBits) ∧
          (s.link.rx = .receiving → t.link.idle = 0 ∧ t.link.rxBits =
            (if t.timer.captureAge % c.bitTime = c.bitTime / 2 then s.link.rxBits ++ [pbRecessive t]
              else s.link.rxBits)) ∧
          t.gen = { s.gen with
            age := if s.gen.interval.isSome then min (s.gen.age + 1) 4095 else s.gen.age
            markCount := s.gen.markCount - 1 } ∧
          t.mon = { s.mon with
            a := { s.mon.a with phase := s.mon.a.phase + 1 }
            b := { s.mon.b with phase := s.mon.b.phase + 1 }
            emptied := [] } ∧
          t = { s with timer := t.timer, link := t.link, gen := t.gen, mon := t.mon, line := t.line })) ∧
  (∀ s : State, s.loader.config = none → s.pending = [] →
    (s.loader.load = .retryWait → s.loader.waited < 65536 →
      step s = .next { s with loader := { s.loader with waited := s.loader.waited + 1 } }) ∧
    (s.loader.load = .retryWait → 65536 ≤ s.loader.waited →
      step s = .next { s with loader := { s.loader with
        load := .reading
        attempt := s.loader.attempt + 1
        buffer := []
        waited := 0
        wire := []
        diag := ⟨s.loader.diag.cause, s.loader.diag.index, s.loader.diag.attempts + 1⟩ } }) ∧
    (s.loader.load ≠ .retryWait → step s = .next s))

/-- No command stops the station: every command answers a next state in every state (log 21), and leaves the waiting
commands as they are. -/
def Obligations.EveryCommandAnswersAndKeepsTheQueue : Prop :=
  ∀ (i : Instr) (s : State), ∃ t, exec i s = .next t ∧ t.pending = s.pending

/-! ### Resets and the load -/

/-- The state after reset holds the values of the "After any reset" columns, and every roster entry its cleared fields
(R14, R40, R42, R59, R82, R85, R118, R156, R175, R180, R196; the cause POWER stands for a supply that has just risen,
log 12; the history kept for the instant of a latch is the model's and starts empty, log 28). -/
def Obligations.ResetStateHoldsTheTableValues : Prop :=
  let s := State.reset
  (s.timer.run = .stopped ∧ s.timer.divider = 0 ∧ s.timer.counter = 0 ∧ s.timer.seq = 0 ∧ s.timer.length = 0 ∧
    s.timer.corr = 0 ∧ s.timer.trimTick = 0 ∧ s.timer.trim = 0 ∧ s.timer.acc = 0 ∧ s.timer.capture = none ∧
    s.timer.captureAge = 0) ∧
  (s.link.waiting = false ∧ s.link.backoff = false ∧ s.link.tx = .off ∧ s.link.inFlight = none ∧ s.link.rx = .off ∧
    s.link.rxBits = [] ∧ s.link.idle = 0 ∧ s.link.beaconPoint = none ∧ s.link.framesTx = 0 ∧ s.link.framesRx = 0 ∧
    s.link.rxErr = 0 ∧ s.link.yields = 0 ∧ s.link.txDrop = 0) ∧
  (∀ j : Station, (s.roster[j]).presence = .absent ∧ (s.roster[j]).reported = none ∧ (s.roster[j]).lock = false ∧
    (s.roster[j]).lastSeq = 0 ∧ (s.roster[j]).deviation = none ∧ (s.roster[j]).silence = 0 ∧
    (s.roster[j]).epoch = 0 ∧ (s.roster[j]).pendEpoch = none ∧ (s.roster[j]).faultOrigin = none) ∧
  (s.align.state = .free ∧ (∀ j : Station, s.align.table[j] = none) ∧ s.align.mean = 0 ∧ s.align.lockStreak = 0 ∧
    s.align.outlierStreak = 0 ∧ s.align.windowCount = 0 ∧ s.align.windowSum = 0 ∧ s.align.outliers = 0) ∧
  (s.member.state = .unconfigured ∧ s.member.listenWindow = none ∧ s.member.joinWindow = none ∧
    s.member.drainWindow = none ∧ s.member.attempts = 0 ∧ s.member.clashHold = false) ∧
  (s.plan.epoch = none ∧ s.plan.set = none ∧ s.plan.place = none ∧ s.plan.pending = none ∧ s.plan.holdoff = none ∧
    s.plan.repeats = 0 ∧ s.plan.relay = false ∧ s.plan.issued = 0 ∧ s.plan.conflict = 0 ∧ s.plan.late = 0) ∧
  (s.gen.phi = 0 ∧ s.gen.dueSeq = 0 ∧ s.gen.held = 0 ∧ s.gen.kind = none ∧ s.gen.interval = none ∧ s.gen.age = 0 ∧
    s.gen.hold = false ∧ s.gen.staged = 0 ∧ s.gen.otaEff = 0 ∧ s.gen.ceiling = 0 ∧ s.gen.markCount = 0) ∧
  (∀ l : FaultLine, (s.mon.line l).phase = 0 ∧ (s.mon.line l).runCount = 0 ∧ (s.mon.line l).asserted = false ∧
    (s.mon.line l).holdForce = false ∧ (s.mon.line l).cutMark = false) ∧
  (s.mon.run = .stopped ∧ s.mon.cutForce = false ∧
    s.mon.latchForce = false ∧ s.mon.history = [] ∧ s.mon.emptied = [] ∧ s.mon.latch = none ∧ s.mon.cutCycles = 0 ∧ s.mon.latches = 0) ∧
  (s.loader.load = .held ∧ s.loader.attempt = 0 ∧ s.loader.buffer = [] ∧ s.loader.config = none ∧
    s.loader.diag = ⟨.none, none, 0⟩ ∧ s.loader.cause = .power) ∧
  (s.port.txn = .closed ∧ s.port.request = none ∧ s.port.response = [] ∧ s.port.rosterPtr = 0 ∧ s.port.flags = 0 ∧ s.port.marks = 0 ∧
    s.port.mask = 0 ∧ s.port.result = .accepted) ∧
  gaPin s = .highZ ∧ gbPin s = .highZ ∧ markHigh s = false ∧ alertAsserted s = false

/-- POWER_ON and RESET_PIN return every block to its reset values, record their cause, and make an open transaction
IGNORED; the levels of the fault lines and the waiting commands are the outside's (R181, R187). That those levels stay
and that the line PB starts with no peer's bits on it is the model's (log 7, log 11). -/
def Obligations.ResetCommandsReturnEveryBlock : Prop :=
  ∀ s : State,
    let txn := match s.port.txn with
      | .closed => Txn.closed
      | .opened _ => Txn.ignored
      | .ignored => Txn.ignored
    let after := fun cause : ResetCause => { State.reset with
      mon := Monitor.reset s.mon.a.pin s.mon.b.pin
      loader := Loader.reset cause
      port := Port.reset txn
      pending := s.pending }
    exec .powerOn s = .next (after .power) ∧ exec .resetPin s = .next (after .pin)

/-- The attempts of a load: at the end of a reset attempt 1 begins in READING; a failed attempt empties the buffer and
waits, and the third refuses the image with NO_MEMORY and raises CONFIG_ERROR; after the wait the next attempt begins,
and the attempts used rise by one (R179, R180, R182, R184). The record of the two wires, of a completed attempt too, and
the count of the wait are the model's (log 13, log 16), and so is that a RETRY_WAIT_END given early passes the rest of
the wait (log 3). -/
def Obligations.LoadAttemptsBeginFailAndRepeat : Prop :=
  ∀ s : State,
    (∀ cause : ResetCause, s.loader = Loader.reset cause →
      exec .loadStart s = .next { s with loader := ⟨.reading, 1, [], none, ⟨.none, none, 1⟩, cause, 0, []⟩ }) ∧
    (∀ why : AttemptFailure, s.loader.load = .reading → s.loader.attempt < 3 →
      exec (.attemptFailed why) s = .next { s with loader := { s.loader with
        load := .retryWait, buffer := [], waited := 0, wire := failedWire why } }) ∧
    (∀ why : AttemptFailure, s.loader.load = .reading → 3 ≤ s.loader.attempt →
      exec (.attemptFailed why) s = .next { s with
        loader := { s.loader with
          load := .refused
          buffer := []
          waited := 0
          wire := failedWire why
          diag := ⟨.noMemory, none, s.loader.diag.attempts⟩ }
        port := { s.port with flags := s.port.flags ||| 0x8000#16, marks := s.port.marks &&& 0x7FFF#16 } }) ∧
    (∀ (pulses : Nat) (image : List Byte), s.loader.load = .reading →
      ∃ t, exec (.imageCheck pulses image) s = .next t ∧ t.loader.wire = readWire pulses image ∧
        t.loader.buffer = image ∧ t.loader.attempt = s.loader.attempt ∧ t.loader.cause = s.loader.cause) ∧
    (s.loader.load = .retryWait →
      exec .retryWaitEnd s = .next { s with loader := { s.loader with
        load := .reading
        attempt := s.loader.attempt + 1
        buffer := []
        waited := 0
        wire := []
        diag := ⟨s.loader.diag.cause, s.loader.diag.index, s.loader.diag.attempts + 1⟩ } })

/-- An image whose CRC does not match is refused with BAD_CRC and no field is checked; one that passes the CRC and
fails a field is refused with BAD_FIELD and the index of the first field that fails, in the order of the indices, and
nothing else of the station changes but CONFIG_ERROR; one that passes every check is accepted, with the ceiling that was
checked. The CRC register and the accepted values of R176 are spelled out; a field whose every code is accepted has no
check (R177, R178, R184, R146). -/
def Obligations.BadImageIsRefused : Prop :=
  ∀ (s : State) (pulses : Nat) (image : List Byte), s.loader.load = .reading →
    let bits := (image.take 30).flatMap fun b => (List.range 8).map fun i => b.getLsbD (7 - i)
    let crc := bits.foldl
      (fun (reg : BitVec 16) bit => if (reg.getLsbD 15 ^^ bit) then (reg <<< 1) ^^^ 0x1021#16 else reg <<< 1) 0xFFFF#16
    let sound := image.getD 30 0 = crc.extractLsb' 8 8 ∧ image.getD 31 0 = crc.extractLsb' 0 8
    let byte := fun i : Nat => (image.getD i 0).toNat
    let word := fun i : Nat => 256 * byte i + byte (i + 1)
    let ceiling : Int := (word 1 : Int) - (byte 5 + 1) - byte 13 - byte 9 - byte 10 - word 11
    let within := fun lo hi x : Nat => decide (lo ≤ x ∧ x ≤ hi)
    let checks : List (Nat × Bool) :=
      [(4, within 256 3600 (word 1)), (8, within 0 5 (byte 4 % 8) && decide (byte 4 / 16 = 0)),
       (10, within 1 31 (byte 5)), (11, within 1 31 (byte 6)), (12, within 4 32 (byte 7)), (13, within 2 16 (byte 8)),
       (14, within 1 255 (byte 9)), (15, within 1 255 (byte 10)), (16, within 0 1023 (word 11)),
       (17, within (byte 5) 255 (byte 13)), (20, decide (byte 16 / 64 = 0)), (21, decide (byte 17 ≠ 128)),
       (23, ((image.drop 20).take 10).all (· == 0x00#8)), (24, decide (0 ≤ ceiling))]
    let first := (checks.find? fun k => !k.2).map Prod.fst
    let refusedWith := fun (cause : DiagCause) (index : Option Nat) =>
      ∃ t, exec (.imageCheck pulses image) s = .next t ∧ t = { s with
        loader := { s.loader with
          load := .refused
          buffer := image
          wire := t.loader.wire
          diag := ⟨cause, index, s.loader.diag.attempts⟩ }
        port := { s.port with flags := s.port.flags ||| 0x8000#16, marks := s.port.marks &&& 0x7FFF#16 } }
    (¬sound → refusedWith .badCrc none) ∧
    (∀ k, sound → first = some k → refusedWith .badField (some k)) ∧
    (sound → first = none → ∃ t, exec (.imageCheck pulses image) s = .next t ∧ t.loader.load = .accepted ∧
      t.loader.config.isSome = true ∧ t.gen.ceiling = ceiling.toNat)

/-- An image that passes every check becomes the configuration in force and starts the station: the timer runs from
cycle 0 with T at INITTRIM, the link is IDLE and in SETTLE, the monitor runs, the ceiling is fixed, the state is
DETACHED or, with AUTOJOIN, LISTEN, and the alert mask is ALERTMASK; every flag and every mark stays (R183, R2, R40,
R85, R190). The first phase point is taken at the same instant, and by the station itself as its next step: it takes
the demand, with DEMAND_CLIPPED where it clips one that was written during the load, and begins a dark cycle (R140,
R145, R155). That it is a step of its own at the instant of acceptance is the model's reading (log 14). -/
def Obligations.SoundImageStartsTheStation : Prop :=
  ∀ (s : State) (pulses : Nat) (image : List Byte) (demand : BitVec 12) (pinA pinB : Level),
    s.loader.load = .reading → crcMatches image = true → firstFailure image = none →
    s.timer = Timer.reset → s.link = Link.reset → s.align = Align.reset → s.member = Member.reset →
    s.plan = PlanCtl.reset → s.gen = { Gen.reset with staged := demand } → s.mon = Monitor.reset pinA pinB →
    let c := imageOf image
    let ceiling := ((c.p : Int) - (c.corrMax + 1) - c.walkStep - c.dta - c.dtb - c.otbMin).toNat
    let clipped := ceiling < demand.toNat
    ∃ t u, exec (.imageCheck pulses image) s = .next t ∧
      t.timer = ⟨.running, 0, 0, false, 0, c.p, 0, 0, 0, c.initTrim, 0, none, 0⟩ ∧
      t.link = { Link.reset with tx := .idle, rx := .settle } ∧
      t.roster = s.roster ∧ t.align = s.align ∧ t.plan = s.plan ∧
      t.member = (if c.autoJoin then { Member.reset with state := .listen, listenWindow := some 0 }
        else { Member.reset with state := .detached }) ∧
      t.gen = { Gen.reset with staged := demand, ceiling := ceiling } ∧
      t.mon = { s.mon with run := .running } ∧
      t.loader.load = .accepted ∧ t.loader.config = some c ∧ t.loader.diag = s.loader.diag ∧
      t.loader.cause = s.loader.cause ∧ t.port = { s.port with mask := c.alertMask } ∧
      t.line = s.line ∧ t.pending = s.pending ∧
      exec .phasePoint t = .next u ∧ (s.roster = rosterReset → s.pending = [] → step t = .next u) ∧
      u.gen = { t.gen with kind := some .dark, dueSeq := 1, otaEff := min demand.toNat ceiling } ∧
      u.port = { t.port with
        flags := (if clipped then s.port.flags ||| 0x0200#16 else s.port.flags)
        marks := (if clipped then s.port.marks &&& 0xFDFF#16 else s.port.marks) } ∧
      u = { t with gen := u.gen, port := u.port }

/-- Every image that is accepted has its fields within the ranges of R176 and a ceiling of 0 or more, and each field is
read from the byte and the bits of the table of R176 in the table's encoding (R176, R178, R146). -/
def Obligations.AcceptedImageIsInRange : Prop :=
  ∀ (s t : State) (pulses : Nat) (image : List Byte) (c : Image),
    s.loader.load = .reading → s.loader.config = none →
    exec (.imageCheck pulses image) s = .next t → t.loader.config = some c →
    let byte := fun i : Nat => (image.getD i 0).toNat
    let word := fun i : Nat => 256 * byte i + byte (i + 1)
    let bit := fun i k : Nat => (image.getD i 0).getLsbD k
    let readAs := fun (set : LineSettings) (i : Nat) =>
      set.mode = ([LineMode.off, .cut, .hold, .latch].getD (byte i % 4) .off) ∧
      set.sample = [1, 4, 16, 64].getD (byte i / 4 % 4) 0 ∧ set.count = byte i / 16 % 4 + 1 ∧
      set.groupTrip = bit i 6 ∧ set.asserted = (if bit i 7 then .high else .low)
    (c.station.val = byte 0 % 16 ∧ c.tickDiv = [1, 2, 4, 8].getD (byte 0 / 16 % 4) 0 ∧
      c.bitTime = [4, 8, 16, 32].getD (byte 0 / 64) 0 ∧ c.p = word 1 ∧ c.latency = byte 3 % 64 ∧
      c.activeLow = bit 3 6 ∧ c.autoJoin = bit 3 7 ∧ c.beaconInt = 2 ^ (byte 4 % 8) ∧ c.honourTrip = bit 4 3 ∧
      c.corrMax = byte 5 ∧ c.lockWin = byte 6 ∧ c.planLead = byte 7 ∧ c.maxMembers = byte 8 ∧ c.dta = byte 9 ∧
      c.dtb = byte 10 ∧ c.otbMin = word 11 ∧ c.walkStep = byte 13 ∧ readAs c.flta 14 ∧ readAs c.fltb 15 ∧
      c.cutLimit = byte 16 ∧ c.initTrim = (if byte 17 < 128 then (byte 17 : Int) else byte 17 - 256) ∧
      ∀ n, n < 16 → c.alertMask.getLsbD n = if n < 8 then bit 19 n else bit 18 (n - 8)) ∧
    c.tickDiv ∈ [1, 2, 4, 8] ∧ c.bitTime ∈ [4, 8, 16, 32] ∧ 256 ≤ c.p ∧ c.p ≤ 3600 ∧ c.latency ≤ 63 ∧
    c.beaconInt ∈ [1, 2, 4, 8, 16, 32] ∧ 1 ≤ c.corrMax ∧ c.corrMax ≤ 31 ∧ 1 ≤ c.lockWin ∧ c.lockWin ≤ 31 ∧
    4 ≤ c.planLead ∧ c.planLead ≤ 32 ∧ 2 ≤ c.maxMembers ∧ c.maxMembers ≤ 16 ∧ 1 ≤ c.dta ∧ c.dta ≤ 255 ∧
    1 ≤ c.dtb ∧ c.dtb ≤ 255 ∧ c.otbMin ≤ 1023 ∧ c.corrMax ≤ c.walkStep ∧ c.walkStep ≤ 255 ∧
    c.flta.sample ∈ [1, 4, 16, 64] ∧ 1 ≤ c.flta.count ∧ c.flta.count ≤ 4 ∧
    c.fltb.sample ∈ [1, 4, 16, 64] ∧ 1 ≤ c.fltb.count ∧ c.fltb.count ≤ 4 ∧ c.cutLimit ≤ 63 ∧
    -127 ≤ c.initTrim ∧ c.initTrim ≤ 127 ∧
    (c.corrMax : Int) + 1 + c.walkStep + c.dta + c.dtb + c.otbMin ≤ c.p

/-! ### The boundary -/

/-- A cycle boundary: the sequence advances, the counter returns to 0, A gains T and gives the trim tick by the table
of R6, and the new length is P + c + t with c limited by the membership state in which the cycle begins; whatever
order the sender gives the boundary's works (R3, R4, R6). The operand for the order is the model's (log 5), and so are
the cycle length it keeps of the ended cycle and the mark that the tick which ends the cycle has come (log 13,
log 3). -/
def Obligations.CycleBoundaryTurnsTheCycle : Prop :=
  ∀ (c : Image) (s : State) (order : List BoundaryWork), AtCycleEnd c s →
    ∃ t, exec (.cycleBoundary order) s = .next t ∧
      t.timer.seq = s.timer.seq + 1 ∧ t.timer.counter = 0 ∧ t.timer.atEnd = false ∧ t.timer.prevLength = s.timer.length ∧
      t.timer.trim = s.timer.trim ∧
      (1024 ≤ s.timer.acc + s.timer.trim →
        t.timer.acc = s.timer.acc + s.timer.trim - 1024 ∧ t.timer.trimTick = 1) ∧
      (s.timer.acc + s.timer.trim ≤ -1024 →
        t.timer.acc = s.timer.acc + s.timer.trim + 1024 ∧ t.timer.trimTick = -1) ∧
      (-1023 ≤ s.timer.acc + s.timer.trim ∧ s.timer.acc + s.timer.trim ≤ 1023 →
        t.timer.acc = s.timer.acc + s.timer.trim ∧ t.timer.trimTick = 0) ∧
      t.timer.length = ((c.p : Int) + t.timer.corr + t.timer.trimTick).toNat ∧
      (t.member.state = .active → -(c.corrMax : Int) ≤ t.timer.corr ∧ t.timer.corr ≤ c.corrMax) ∧
      (t.member.state ≠ .active → -((c.p / 8 : Nat) : Int) ≤ t.timer.corr ∧ t.timer.corr ≤ (c.p / 8 : Nat)) ∧
      t.timer.capture = s.timer.capture ∧ t.loader = s.loader ∧ t.pending = s.pending

/-- The Alignment Unit's work at a boundary in the default order: the table gives the mean and is emptied, the trim
window gains the ended cycle's correction, and the new correction is the mean, halved and limited to CORRMAX for a
member, a draining or a faulted station and limited to floor(P/8) for the others; it is 0 for an unmeasured cycle and
without a timebase (R72, R73, R76, R5). In PULLING the lock streak rises at a mean within LOCKWIN, returns to 0 at one
outside it, and makes LOCKED with LOCK_GAINED at 8; in LOCKED it rises outside, returns to 0 inside, and makes PULLING
with LOCK_LOST at 4 (R78, R79). The default order is the model's (log 5), and so is the mark of the cycle's last tick
(log 3). -/
def Obligations.BoundaryMeasuresAndCorrects : Prop :=
  ∀ (c : Image) (s : State), AtCycleEnd c s → c.corrMax ≤ c.p / 8 →
    let values := stations.filterMap fun j => s.align.table[j]
    let m := values.sum.tdiv values.length
    let member := s.member.state = .active ∨ s.member.state = .draining ∨ s.member.state = .faulted
    ∃ t, exec (.cycleBoundary []) s = .next t ∧ t.member.state = s.member.state ∧
      (s.align.state = .free → t.align = s.align ∧ t.timer.corr = 0) ∧
      (s.align.state ≠ .free →
        (∀ j : Station, t.align.table[j] = none) ∧ t.align.windowCount = s.align.windowCount + 1 ∧
        t.align.windowSum = s.align.windowSum + s.timer.corr ∧ t.align.outlierStreak = s.align.outlierStreak ∧
        t.align.outliers = s.align.outliers) ∧
      (s.align.state = .free ∨ values = [] → t.port = s.port) ∧
      (s.align.state ≠ .free → values = [] →
        t.align.mean = 0 ∧ t.timer.corr = 0 ∧ t.align.state = s.align.state ∧
        t.align.lockStreak = s.align.lockStreak) ∧
      (s.align.state ≠ .free → values ≠ [] →
        t.align.mean = m ∧
        (member → t.timer.corr = max (-(c.corrMax : Int)) (min c.corrMax (m.tdiv 2))) ∧
        (¬member → t.timer.corr = max (-((c.p / 8 : Nat) : Int)) (min (c.p / 8 : Nat) m)) ∧
        let stays := fun streak : Nat =>
          t.align.state = s.align.state ∧ t.align.lockStreak = streak ∧ t.port = s.port
        let becomes := fun (next : AlignState) (bit : BitVec 16) =>
          t.align.state = next ∧ t.align.lockStreak = 0 ∧
            t.port = { s.port with flags := s.port.flags ||| bit, marks := s.port.marks &&& ~~~bit }
        (s.align.state = .pulling →
          (c.lockWin < m.natAbs → stays 0) ∧
          (m.natAbs ≤ c.lockWin → s.align.lockStreak < 7 → stays (s.align.lockStreak + 1)) ∧
          (m.natAbs ≤ c.lockWin → 7 ≤ s.align.lockStreak → becomes .locked 0x0040#16)) ∧
        (s.align.state = .locked →
          (m.natAbs ≤ c.lockWin → stays 0) ∧
          (c.lockWin < m.natAbs → s.align.lockStreak < 3 → stays (s.align.lockStreak + 1)) ∧
          (c.lockWin < m.natAbs → 3 ≤ s.align.lockStreak → becomes .pulling 0x0080#16)))

/-- At a boundary every peer's silence rises by one up to 255, the running windows count, and the beacon point of the
new cycle is fixed: φ in ACTIVE or DRAINING, floor(STATION × P / 16) in JOINING, in a cycle whose sequence suits the
station, and none otherwise (R53, R88, R36). The default order is the model's (log 5), and so is the mark of the
cycle's last tick (log 3). -/
def Obligations.BoundaryAgesCountsAndSchedules : Prop :=
  ∀ (c : Image) (s : State), AtCycleEnd c s →
    ∃ t, exec (.cycleBoundary []) s = .next t ∧
      t.roster[c.station] = s.roster[c.station] ∧
      (∀ j, j ≠ c.station → (s.roster[j]).presence = .absent → t.roster[j] = s.roster[j]) ∧
      (∀ j, j ≠ c.station → (s.roster[j]).presence ≠ .absent →
        t.roster[j] = { s.roster[j] with silence := min ((s.roster[j]).silence + 1) 255 }) ∧
      t.member = { s.member with
        listenWindow := s.member.listenWindow.map (· + 1)
        joinWindow := s.member.joinWindow.map (· + 1)
        drainWindow := s.member.drainWindow.map (· + 1) } ∧
      t.link.beaconPoint =
        (if (s.timer.seq + 1).toNat % c.beaconInt = c.station.val % c.beaconInt then
          match s.member.state with
          | .active => some s.gen.phi
          | .draining => some s.gen.phi
          | .joining => some (c.station.val * c.p / 16)
          | .unconfigured => none
          | .detached => none
          | .listen => none
          | .faulted => none
        else none)

/-- The Plan Controller of an ACTIVE station at a boundary without an apply. The desired set is the reference set, less
the stations but the own that are SILENT, DEPARTED or EXCLUDED, with the locked joiners in ascending order while it
holds fewer than MAXMEMBERS, and none where the reference set holds more; one that comes out empty counts as the
reference set (R120, R121, R122). The holdoff starts at H = 2 + 2 × STATION, falls by one, or stops, by whether the
two sets differ (R123). The relay flag clears (R119), and an issued plan that is still pending is repeated (R127).
That the holdoff stands at 0 until PLAN_ISSUE is the model's form (log 19), the default order is log 5, and the mark
of the cycle's last tick is log 3. -/
def Obligations.HoldoffCountsAtTheBoundary : Prop :=
  ∀ (c : Image) (s : State), AtCycleEnd c s → s.member.state = .active →
    (∀ r, s.plan.pending = some r → r.effSeq ≠ s.timer.seq + 1) →
    let ref : StationSet := match s.plan.pending with
      | some r => r.members
      | none => s.plan.set.getD 0
    let removed := fun j : Station => decide (j ≠ c.station) && ((s.roster[j]).presence == .silent ||
      (s.roster[j]).presence == .departed || (s.roster[j]).presence == .excluded)
    let kept := fun j : Station => ref.getLsbD j.val && !removed j
    let joins := fun j : Station => !ref.getLsbD j.val && (s.roster[j]).presence == .heard &&
      (s.roster[j]).reported == some .joining && (s.roster[j]).lock
    let room := fun j : Station => decide ((stations.filter fun i => ref.getLsbD i.val).length ≤ c.maxMembers) &&
      decide ((stations.filter kept).length + (stations.filter fun i => decide (i < j) && joins i).length <
        c.maxMembers)
    let wanted := fun j : Station => kept j || (joins j && room j)
    let differs := ∃ j : Station, (∃ i : Station, wanted i = true) ∧ wanted j ≠ ref.getLsbD j.val
    ∃ t, exec (.cycleBoundary []) s = .next t ∧ t.plan.relay = false ∧ t.plan.pending = s.plan.pending ∧
      t.plan.epoch = s.plan.epoch ∧ t.plan.set = s.plan.set ∧
      referenceSet s.plan = ref ∧
      (∀ j : Station, (desiredSet c s).getLsbD j.val =
        if (∃ i : Station, wanted i = true) then wanted j else ref.getLsbD j.val) ∧
      (¬differs → t.plan.holdoff = none) ∧
      (differs → s.plan.holdoff = none → t.plan.holdoff = some (2 + 2 * c.station.val)) ∧
      (differs → ∀ n, s.plan.holdoff = some n → t.plan.holdoff = some (n - 1)) ∧
      (∀ r, s.plan.pending = some r → s.plan.lastIssued = some r → 0 < s.plan.repeats →
        t.link.qPlan = some ⟨r, 0⟩ ∧ t.plan.repeats = s.plan.repeats - 1) ∧
      (∀ r, s.plan.pending = some r → s.plan.lastIssued = some r → s.plan.repeats = 0 →
        t.link.qPlan = s.link.qPlan ∧ t.plan.repeats = 0) ∧
      (s.plan.pending = none ∨ s.plan.pending ≠ s.plan.lastIssued →
        t.link.qPlan = s.link.qPlan ∧ t.plan.repeats = 0)

/-- At the end of a trim window T moves by the sign of the window sum and stays within -127..+127, and a new window
begins; nothing else changes (R77, R7). -/
def Obligations.TrimWindowEndStepsTrim : Prop :=
  ∀ (c : Image) (s : State), Configured c s → 16 ≤ s.align.windowCount →
    -127 ≤ s.timer.trim → s.timer.trim ≤ 127 →
    let t' := if 0 < s.align.windowSum then min 127 (s.timer.trim + 1)
      else if s.align.windowSum < 0 then max (-127) (s.timer.trim - 1) else s.timer.trim
    exec .trimWindowEnd s = .next { s with
      timer := { s.timer with trim := t' }
      align := { s.align with windowCount := 0, windowSum := 0 } }

/-- At the silence limit an entry changes by the table of R53, and nothing else changes. -/
def Obligations.SilenceLimitChangesPresence : Prop :=
  ∀ (c : Image) (s : State) (j : Station), Configured c s → j ≠ c.station →
    4 * c.beaconInt + 2 ≤ (s.roster[j]).silence →
    ∃ t, exec (.silenceLimit j) s = .next t ∧ t = { s with roster := t.roster } ∧
      (∀ k, k ≠ j → t.roster[k] = s.roster[k]) ∧
      (inCurrent s j = false → (s.roster[j]).presence = .heard ∨ (s.roster[j]).presence = .excluded →
        t.roster[j] = Entry.cleared) ∧
      (inCurrent s j = true → (s.roster[j]).presence = .member ∨ (s.roster[j]).presence = .excluded →
        t.roster[j] = { s.roster[j] with presence := .silent }) ∧
      ((s.roster[j]).presence = .silent ∨ (s.roster[j]).presence = .departed ∨ (s.roster[j]).presence = .absent →
        t.roster[j] = s.roster[j])

/-- At the beacon point, or the last tick of a shorter cycle, a BEACON request with retry count 0 fills its slot if
the state still beacons; otherwise nothing is requested (R36, R37, R23). The flag of a served point is the model's
(log 13). -/
def Obligations.BeaconPointRequestsABeacon : Prop :=
  ∀ (c : Image) (s : State) (point : Nat), Configured c s → s.link.beaconPoint = some point →
    s.link.beaconDone = false → s.timer.counter = min point (s.timer.length - 1) →
    (s.member.state = .joining ∨ s.member.state = .active ∨ s.member.state = .draining →
      ∃ t, exec .beaconPoint s = .next t ∧ t = { s with link := t.link } ∧
        t.link.qBeacon = some ⟨(), 0⟩ ∧ t.link.qFault = s.link.qFault ∧ t.link.qLeave = s.link.qLeave ∧
        t.link.qPlan = s.link.qPlan ∧ t.link.backoff = s.link.backoff ∧ t.link.rx = s.link.rx ∧
        (s.link.tx = .idle ∨ s.link.tx = .defer → t.link.tx = .defer) ∧
        (s.link.tx = .sending → t.link.tx = .sending) ∧
        t.link.inFlight.map InFlight.frame = s.link.inFlight.map InFlight.frame) ∧
    (s.member.state = .detached ∨ s.member.state = .listen ∨ s.member.state = .faulted →
      exec .beaconPoint s = .next { s with link := { s.link with beaconDone := true } })

/-- PLAN_ISSUE: the plan of the reference epoch plus one, with the desired set and EFFSEQ PLANLEAD cycles ahead,
becomes the pending plan and fills the PLAN slot; PLANSISSUED rises, two repeats are left and the holdoff stops
(R126). Where the new epoch would not be newer than the current one the holdoff restarts, and where no difference is
left it stops, without a plan (R123). The record of the plan last issued and the recomputed desired set are the
model's (log 13, log 19). -/
def Obligations.PlanIssueTakesThePlanPending : Prop :=
  ∀ (c : Image) (s : State), Configured c s → s.member.state = .active → s.plan.holdoff = some 0 →
    let e : Epoch := (match s.plan.pending with
      | some r => r.epoch
      | none => s.plan.epoch.getD 0) + 1
    let gap := (e - s.plan.epoch.getD 0).toNat
    let r : PlanRecord := ⟨e, c.station, desiredSet c s, s.timer.seq + BitVec.ofNat 8 c.planLead⟩
    (desiredSet c s = referenceSet s.plan →
      exec .planIssue s = .next { s with plan := { s.plan with holdoff := none } }) ∧
    (desiredSet c s ≠ referenceSet s.plan → ¬(1 ≤ gap ∧ gap ≤ 127) →
      exec .planIssue s = .next { s with plan := { s.plan with holdoff := some (2 + 2 * c.station.val) } }) ∧
    (desiredSet c s ≠ referenceSet s.plan → 1 ≤ gap → gap ≤ 127 →
      ∃ t, exec .planIssue s = .next t ∧ t = { s with link := t.link, plan := t.plan } ∧
        t.plan = { s.plan with
          pending := some r
          lastIssued := some r
          issued := (if s.plan.issued = 0xFFFF#16 then 0xFFFF#16 else s.plan.issued + 1)
          repeats := 2
          holdoff := none } ∧
        t.link.qPlan = some ⟨r, 0⟩ ∧ t.link.qFault = s.link.qFault ∧ t.link.qLeave = s.link.qLeave ∧
        t.link.qBeacon = s.link.qBeacon ∧ t.link.rx = s.link.rx)

/-- PLAN_APPLY: the pending plan comes into force, with rank k, size n and target floor(k × P / n) when the own station
is in the set; PLAN_APPLIED is raised, and the membership state changes by R94, R99, R100 and R101 (R134, R135, R115).
A JOINING station that the plan takes in enters ACTIVE with φ at the target and the phase point due there in the cycle
that begins; with a target of 0 the boundary itself is that phase point, which is held while the OTB minimum of a live
cycle has not run (R94, R149, R139, R143). An apply that leaves the own station sole member makes PULLING into LOCKED
with LOCK_GAINED, and any other leaves the alignment state (R80). That the correction of the new cycle is limited at
this step is the model's reading (log 24), that the jump ends a hold is too (log 20), and the flag of an unbroken
ACTIVE is the model's (log 13). That a full history's cut count is that of R164, where a sentence of R165 differs, is
the model's reading (log 29). -/
def Obligations.PlanApplyBringsThePlanIntoForce : Prop :=
  ∀ (c : Image) (s : State) (r : PlanRecord), Configured c s → s.plan.pending = some r → r.effSeq = s.timer.seq →
    ¬Escalating c s →
    let own := r.members.getLsbD c.station.val
    let size := (stations.filter fun j => r.members.getLsbD j.val).length
    let rank := (stations.filter fun j => r.members.getLsbD j.val && decide (j < c.station)).length
    let target := rank * c.p / size
    let enters := s.member.state = .joining ∧ own = true
    let leaves := s.member.state = .active ∧ own = false
    let sole := ∀ j : Station, r.members.getLsbD j.val = true ↔ j = c.station
    let handed := { s.gen with held := if own then target else s.gen.held }
    let jumped := { s.gen with phi := target, held := target, dueSeq := s.timer.seq, hold := false }
    let corr : Int := max (-(c.corrMax : Int)) (min c.corrMax s.timer.corr)
    ∃ t, exec .planApply s = .next t ∧
      t.plan.epoch = some r.epoch ∧ t.plan.set = some r.members ∧ t.plan.pending = none ∧ t.plan.relay = false ∧
      (own = true → t.plan.place = some ⟨rank, size, target⟩) ∧ (own = false → t.plan.place = none) ∧
      t.gen.held = handed.held ∧
      t.port.flags.getLsbD 5 = true ∧
      (enters → t.member = ⟨.active, none, none, none, 0, s.member.clashHold⟩ ∧ t.port.flags.getLsbD 0 = true) ∧
      (leaves →
        t.member = ⟨.detached, none, none, none, 0, s.member.clashHold⟩ ∧ t.port.flags.getLsbD 1 = true) ∧
      (s.member.state = .draining → own = false →
        t.member = ⟨.detached, none, none, none, 0, s.member.clashHold⟩ ∧ t.port.flags.getLsbD 2 = true) ∧
      (s.member.state = .active → own = true → t.member = s.member) ∧
      (s.member.state = .draining → own = true → t.member = s.member) ∧
      (s.member.state = .joining → own = false → t.member = s.member) ∧
      (s.member.state = .detached ∨ s.member.state = .faulted → t.member = s.member) ∧
      (¬enters → t.timer = s.timer ∧
        t.gen = if leaves then { handed with unbroken := false, markCount := 0 } else handed) ∧
      (enters → s.timer.counter = 0 → t.timer = { s.timer with
        corr := corr, length := ((c.p : Int) + corr + s.timer.trimTick).toNat }) ∧
      (enters → s.timer.counter ≠ 0 → t.timer = s.timer) ∧
      (enters → target ≠ 0 → t.gen = jumped) ∧
      (enters → target = 0 → s.gen.kind = some .live →
        (s.gen.interval = some .otb ∧ s.gen.age < c.otbMin) ∨ (s.gen.interval = some .dtb ∧ s.gen.age < c.dtb) ∨
          (s.gen.interval = some .ota ∧ s.gen.age < s.gen.otaEff) ∨
          (s.gen.interval = some .dta ∧ s.gen.age < c.dta) →
        t.gen = { jumped with hold := true }) ∧
      (enters → target = 0 → 0 < c.p →
        s.gen.kind ≠ some .live ∨ (s.gen.interval = some .otb ∧ c.otbMin ≤ s.gen.age) →
        t.gen = { jumped with
          dueSeq := s.timer.seq + 1
          kind := some .live
          interval := some .dta
          age := 0
          unbroken := true
          otaEff := min s.gen.staged.toNat s.gen.ceiling
          markCount := 4 }) ∧
      (sole → s.align.state = .pulling →
        t.align = { s.align with state := .locked, lockStreak := 0 } ∧ t.port.flags.getLsbD 6 = true) ∧
      (¬(sole ∧ s.align.state = .pulling) →
        t.align = s.align ∧ t.port.flags.getLsbD 6 = s.port.flags.getLsbD 6) ∧
      t.link.qFault = s.link.qFault ∧ t.link.qLeave = s.link.qLeave ∧ t.link.rx = s.link.rx ∧
      t.mon.latch = s.mon.latch ∧ t.loader = s.loader ∧ t.line = s.line ∧ t.pending = s.pending

/-- What an apply does to each entry of the roster: an entry whose silence limit is due is aged first, and then an entry
of the new set becomes MEMBER with silence 0 and every other field kept, one outside it goes HEARD, is cleared or stays,
and an EXCLUDED entry and the own one are passed by (R55, R56, R53, R42). -/
def Obligations.PlanApplyChangesTheRoster : Prop :=
  ∀ (c : Image) (s : State) (r : PlanRecord) (j : Station), Configured c s → s.plan.pending = some r →
    r.effSeq = s.timer.seq →
    let before := s.roster[j]
    let due := 4 * c.beaconInt + 2 ≤ before.silence
    let aged :=
      if due ∧ inCurrent s j = true ∧ (before.presence = .member ∨ before.presence = .excluded) then
        { before with presence := .silent }
      else if due ∧ inCurrent s j = false ∧ (before.presence = .heard ∨ before.presence = .excluded) then
        ⟨.absent, none, false, 0, none, 0, 0, none, none⟩
      else before
    ∃ t, exec .planApply s = .next t ∧
      (j = c.station → t.roster[j] = before) ∧
      (j ≠ c.station → inSet r.members j = true → aged.presence ≠ .excluded →
        t.roster[j] = { aged with presence := .member, silence := 0 }) ∧
      (j ≠ c.station → inSet r.members j = false → aged.presence = .member →
        t.roster[j] = { aged with presence := .heard }) ∧
      (j ≠ c.station → inSet r.members j = false → aged.presence = .silent ∨ aged.presence = .departed →
        t.roster[j] = ⟨.absent, none, false, 0, none, 0, 0, none, none⟩) ∧
      (j ≠ c.station → inSet r.members j = false → aged.presence = .absent ∨ aged.presence = .heard →
        t.roster[j] = aged) ∧
      (j ≠ c.station → aged.presence = .excluded → t.roster[j] = aged)

/-- Founding: at the end of the listen window a FREE station takes epoch 0 and the set of itself alone, becomes LOCKED
and ACTIVE at rank 0 of 1 with target 0, and raises LOCK_GAINED and JOINED; roster, sequence and queue stay. The new
cycle is P + c + t long with c limited to ±CORRMAX. The boundary is the first phase point of the ACTIVE period, which
is held while the OTB minimum of a live cycle has not run (R92, R80, R4, R149, R143). That c is limited at this step is
the model's reading (log 24), that the jump ends a hold is too (log 20), and the flag of an unbroken ACTIVE is the
model's (log 13). That a full history's cut count is that of R164, where a sentence of R165 differs, is the model's
reading (log 29). -/
def Obligations.ListenWindowEndFounds : Prop :=
  ∀ (c : Image) (s : State) (n : Nat), Configured c s → s.member.state = .listen →
    s.member.listenWindow = some n → 4 * c.beaconInt + 2 ≤ n → s.align.state = .free → s.timer.counter = 0 →
    0 < c.p → ¬Escalating c s →
    let corr : Int := max (-(c.corrMax : Int)) (min c.corrMax s.timer.corr)
    let jumped := { s.gen with phi := 0, held := 0, dueSeq := s.timer.seq, hold := false }
    ∃ t, exec .listenWindowEnd s = .next t ∧
      t.plan = { s.plan with
        epoch := some 0
        set := some (1#16 <<< c.station.val)
        place := some ⟨0, 1, 0⟩
        pending := none
        holdoff := none } ∧
      t.align = ⟨.locked, t.align.table, 0, 0, 0, 0, 0, s.align.outliers⟩ ∧
      (∀ j : Station, t.align.table[j] = none) ∧
      t.member = ⟨.active, none, none, none, 0, s.member.clashHold⟩ ∧
      t.timer = { s.timer with corr := corr, length := ((c.p : Int) + corr + s.timer.trimTick).toNat } ∧
      (s.gen.kind = some .live →
        (s.gen.interval = some .otb ∧ s.gen.age < c.otbMin) ∨ (s.gen.interval = some .dtb ∧ s.gen.age < c.dtb) ∨
          (s.gen.interval = some .ota ∧ s.gen.age < s.gen.otaEff) ∨
          (s.gen.interval = some .dta ∧ s.gen.age < c.dta) →
        t.gen = { jumped with hold := true }) ∧
      (s.gen.kind ≠ some .live ∨ (s.gen.interval = some .otb ∧ c.otbMin ≤ s.gen.age) →
        t.gen = { jumped with
          dueSeq := s.timer.seq + 1
          kind := some .live
          interval := some .dta
          age := 0
          unbroken := true
          otaEff := min s.gen.staged.toNat s.gen.ceiling
          markCount := 4 }) ∧
      t.port.flags.getLsbD 0 = true ∧ t.port.flags.getLsbD 6 = true ∧ t.mon.latch = s.mon.latch ∧
      t.roster = s.roster ∧ t.link = s.link ∧ t.loader = s.loader ∧ t.line = s.line ∧
      t.pending = s.pending

/-- The end of a join window: it restarts when the pending plan holds the own station; else the attempt count rises
and the window restarts; the third failure ends in DETACHED with JOIN_FAILED. The end of the drain window in DRAINING
ends in DETACHED with LEFT. Either way into DETACHED withdraws the BEACON and PLAN requests, and the timebase, roster
and plan records stay (R93, R99, R24). -/
def Obligations.JoinAndDrainWindowsEnd : Prop :=
  ∀ (c : Image) (s : State) (n : Nat), Configured c s →
    let leaves := fun (i : Instr) (bit : BitVec 16) =>
      ∃ t, exec i s = .next t ∧ t = { s with member := t.member, link := t.link, port := t.port } ∧
        t.member = ⟨.detached, none, none, none, 0, s.member.clashHold⟩ ∧
        t.link.qBeacon = none ∧ t.link.qPlan = none ∧ t.link.qFault = s.link.qFault ∧
        t.link.qLeave = s.link.qLeave ∧ t.link.rx = s.link.rx ∧ t.link.backoff = s.link.backoff ∧
        t.port = { s.port with flags := s.port.flags ||| bit, marks := s.port.marks &&& ~~~bit }
    (s.member.state = .joining → s.member.joinWindow = some n → 16 * c.beaconInt + c.planLead + 8 ≤ n →
      ((∃ r, s.plan.pending = some r ∧ inSet r.members c.station = true) →
        exec .joinWindowEnd s = .next { s with member := { s.member with joinWindow := some 0 } }) ∧
      ((∀ r, s.plan.pending = some r → inSet r.members c.station = false) → s.member.attempts < 2 →
        exec .joinWindowEnd s = .next { s with
          member := { s.member with joinWindow := some 0, attempts := s.member.attempts + 1 } }) ∧
      ((∀ r, s.plan.pending = some r → inSet r.members c.station = false) → 2 ≤ s.member.attempts →
        leaves .joinWindowEnd 0x1000#16)) ∧
    (s.member.state = .draining → s.member.drainWindow = some n → 4 * c.beaconInt + c.planLead + 36 ≤ n →
      leaves .drainWindowEnd 0x0004#16)

/-! ### The link -/

/-- LAUNCH: at the threshold the highest-priority waiting request is launched, in the order FAULT, LEAVE, PLAN,
BEACON, with the content of R21 and R22; the slots keep their requests, backoff clears, and the receiver takes the
capture (R25, R18, R9). -/
def Obligations.LaunchSendsTheHighestPriority : Prop :=
  ∀ (c : Image) (s : State), Configured c s → s.link.tx = .defer → s.link.rx = .settle ∨ s.link.rx = .hunt →
    (if s.link.backoff then (11 + c.station.val) * c.bitTime else 10 * c.bitTime) ≤ s.link.idle →
    let launches := fun body : FrameBody => exec .launch s = .next { s with
      timer := { s.timer with capture := some ⟨s.timer.seq, s.timer.counter⟩, captureAge := 0 }
      link := { s.link with
        tx := .sending
        inFlight := some ⟨⟨c.station, body⟩, true⟩
        backoff := false
        rx := .receiving
        rxBits := []
        idle := 0 } }
    (∀ q, s.link.qFault = some q → launches (.fault ⟨q.content.origin, q.content.gtrip, s.timer.seq⟩)) ∧
    (∀ q, s.link.qFault = none → s.link.qLeave = some q → launches (.leave ⟨s.timer.seq, q.content⟩)) ∧
    (∀ q, s.link.qFault = none → s.link.qLeave = none → s.link.qPlan = some q → launches (.plan q.content)) ∧
    (∀ q, s.link.qFault = none → s.link.qLeave = none → s.link.qPlan = none → s.link.qBeacon = some q →
      ∃ b : BeaconBody, launches (.beacon b) ∧ b.seq = s.timer.seq ∧ b.stamp = BitVec.ofNat 12 s.timer.counter ∧
        (s.member.state = .active → b.mstate = .active) ∧ (s.member.state = .joining → b.mstate = .joining) ∧
        (s.member.state = .draining → b.mstate = .draining) ∧ (b.lock = true ↔ s.align.state = .locked) ∧
        b.cepoch = s.plan.epoch.getD 0 ∧ (∀ r, s.plan.pending = some r → b.ppend = true ∧ b.pepoch = r.epoch) ∧
        (s.plan.pending = none → b.ppend = false ∧ b.pepoch = 0) ∧
        (∀ m, s.plan.set = some m → b.lowest.toNat = (lowestOf m).val ∧
          b.count = BitVec.ofNat 4 (Sys2Proof.Machine.sizeOf m - 1)) ∧
        (s.plan.set = none → b.lowest = 0 ∧ b.count = 0) ∧ b.cyclen = BitVec.ofNat 12 c.p)

/-- YIELD at a bit sent recessive: YIELDS rises, backoff is set, the frame in flight is discarded, and the request
that still holds its slot counts one more retry or, at its eighth yield, leaves with TXDROP and TX_DROPPED; one that
lost its slot leaves the queue alone. The receiver keeps the bits both frames share (R28, R29, R27). That the command
brings the other frame's bits where the line does not carry them yet is the model's (log 7). -/
def Obligations.YieldBacksOffAndCountsRetries : Prop :=
  ∀ (c : Image) (s : State) (f : InFlight) (bit : Nat) (rest : List Bool), Sending c f s → bit ≠ 0 →
    (frameBits f.frame)[bit]? = some true → s.timer.captureAge = bit * c.bitTime + c.bitTime / 2 →
    let k := bodyKind f.frame.body
    ∃ t, exec (.yieldAt ⟨bit, rest⟩) s = .next t ∧ t.link.inFlight = none ∧ t.link.backoff = true ∧
      t.link.yields = (if s.link.yields = 0xFFFF#16 then 0xFFFF#16 else s.link.yields + 1) ∧
      t.link.rx = s.link.rx ∧ t.link.rxBits = (frameBits f.frame).take bit ++ [false] ∧
      t.link.tx = (if t.link.waiting then .defer else .idle) ∧ t.link.framesTx = s.link.framesTx ∧
      (f.holdsSlot = false → t.link.qFault = s.link.qFault ∧ t.link.qLeave = s.link.qLeave ∧
        t.link.qPlan = s.link.qPlan ∧ t.link.qBeacon = s.link.qBeacon ∧ t.link.txDrop = s.link.txDrop ∧
        t.port = s.port) ∧
      (∀ n, f.holdsSlot = true → s.link.retries k = some n → n < 7 →
        t.link.retries k = some (n + 1) ∧ t.link.txDrop = s.link.txDrop ∧ t.port = s.port) ∧
      (∀ n, f.holdsSlot = true → s.link.retries k = some n → 7 ≤ n →
        t.link.retries k = none ∧
        t.link.txDrop = (if s.link.txDrop = 0xFFFF#16 then 0xFFFF#16 else s.link.txDrop + 1) ∧
        t.port = { s.port with flags := s.port.flags ||| 0x2000#16, marks := s.port.marks &&& 0xDFFF#16 }) ∧
      (∀ k', k' ≠ k → t.link.retries k' = s.link.retries k') ∧
      t.line = (if pbRecessive s then
          wiredAnd s.line (List.replicate (c.bitTime - c.bitTime / 2) false ++ levelsOf c rest) else s.line) ∧
      t = { s with link := t.link, port := t.port, line := t.line }

/-- LINE_FAULT at a bit sent dominant: the request that holds its slot is dropped, TXDROP rises and TX_DROPPED is
raised, backoff is left alone, the receiver settles with idle count 0 and the capture goes (R30, R27). That the
capture goes is the model's reading (log 17). -/
def Obligations.LineFaultAbortsTheFrame : Prop :=
  ∀ (c : Image) (s : State) (f : InFlight) (bit : Nat), Sending c f s →
    (frameBits f.frame)[bit]? = some false → s.timer.captureAge = bit * c.bitTime + c.bitTime / 2 →
    let k := bodyKind f.frame.body
    ∃ t, exec (.lineFault bit) s = .next t ∧ t.link.inFlight = none ∧ t.link.backoff = s.link.backoff ∧
      t.link.rx = .settle ∧ t.link.idle = 0 ∧ t.link.rxBits = [] ∧ t.link.rxErr = s.link.rxErr ∧
      t.link.txDrop = (if s.link.txDrop = 0xFFFF#16 then 0xFFFF#16 else s.link.txDrop + 1) ∧
      t.link.tx = (if t.link.waiting then .defer else .idle) ∧
      t.link.retries k = (if f.holdsSlot then none else s.link.retries k) ∧
      (∀ k', k' ≠ k → t.link.retries k' = s.link.retries k') ∧
      t = { s with
        timer := { s.timer with capture := none }
        link := t.link
        port := { s.port with flags := s.port.flags ||| 0x2000#16, marks := s.port.marks &&& 0xDFFF#16 } }

/-- FRAME_COMPLETE: FRAMESTX rises, the request leaves if it still holds its slot, the transmitter returns to DEFER or
IDLE by its queue, and the receiver hunts with idle count 0 (R26, R27). -/
def Obligations.FrameCompleteFreesTheSlot : Prop :=
  ∀ (c : Image) (s : State) (f : InFlight), Sending c f s →
    s.timer.captureAge = frameLength f.frame * c.bitTime →
    let k := bodyKind f.frame.body
    ∃ t, exec .frameComplete s = .next t ∧ t.link.inFlight = none ∧ t.link.backoff = s.link.backoff ∧
      t.link.rx = .hunt ∧ t.link.idle = 0 ∧ t.link.rxBits = [] ∧ t.link.framesRx = s.link.framesRx ∧
      t.link.framesTx = (if s.link.framesTx = 0xFFFF#16 then 0xFFFF#16 else s.link.framesTx + 1) ∧
      t.link.tx = (if t.link.waiting then .defer else .idle) ∧
      t.link.retries k = (if f.holdsSlot then none else s.link.retries k) ∧
      (∀ k', k' ≠ k → t.link.retries k' = s.link.retries k') ∧
      t = { s with link := t.link }

/-- ENTER_HUNT once the idle count has reached ten bit times; a SOF edge in HUNT with the capture of the time pair; the
same dominant line in SETTLE, where it returns the idle count to 0 and is no SOF edge; and a start bit rejected as a
glitch at its own mid-bit sample (R31, R9, R18, R16). That a command brings the bits of other stations, which join the
levels the line has already, is the model's (log 7). -/
def Obligations.ReceiverHuntsTakesAndRejectsStartBits : Prop :=
  ∀ (c : Image) (s : State), Configured c s →
    (s.link.rx = .settle → 10 * c.bitTime ≤ s.link.idle →
      exec .enterHunt s = .next { s with link := { s.link with rx := .hunt } }) ∧
    (∀ rest : List Bool, s.link.rx = .hunt → 0 < c.bitTime →
      exec (.sofEdge (false :: rest)) s = .next { s with
        timer := { s.timer with capture := some ⟨s.timer.seq, s.timer.counter⟩, captureAge := 0 }
        link := { s.link with rx := .receiving, rxBits := [], idle := 0 }
        line := wiredAnd s.line (List.replicate c.bitTime false ++ levelsOf c rest) }) ∧
    (∀ rest : List Bool, s.link.rx = .settle → 0 < c.bitTime →
      exec (.sofEdge (false :: rest)) s = .next { s with
        link := { s.link with idle := 0 }
        line := wiredAnd s.line (List.replicate c.bitTime false ++ levelsOf c rest) }) ∧
    (s.link.rx = .receiving → s.link.tx ≠ .sending → s.link.rxBits = [true] →
      exec .startBitGlitch s = .next { s with
        timer := { s.timer with capture := none }
        link := { s.link with rx := .hunt, rxBits := [], idle := 0 } })

/-- A frame error ends the received frame: RXERR rises once, RX_ERROR is raised, bits and capture are discarded, and
the receiver settles with idle count 0; no other block hears of it (R33). -/
def Obligations.FrameErrorIsDiscarded : Prop :=
  ∀ (c : Image) (s : State) (bits : List Bool) (pos : Nat), Configured c s →
    judge bits = .error pos → s.link.rxBits = bits → s.link.rx = .receiving → s.link.tx ≠ .sending →
    s.timer.captureAge = (if pos = kindBits (sampledKind bits) then pos * c.bitTime
      else pos * c.bitTime + c.bitTime / 2) →
    exec (.receivedFrameError bits) s = .next { s with
      timer := { s.timer with capture := none }
      link := { s.link with
        rx := .settle
        rxBits := []
        idle := 0
        rxErr := (if s.link.rxErr = 0xFFFF#16 then 0xFFFF#16 else s.link.rxErr + 1) }
      port := { s.port with flags := s.port.flags ||| 0x4000#16, marks := s.port.marks &&& 0xBFFF#16 } }

/-- Frames survive the bus: the bits of every frame are a dominant SOF, KIND, SRC and the body fields in the order, the
widths and the codes of the table of R19, each most significant bit first, the CRC, and two recessive EOF bits; and the
receiver's checks take these bits and read from them that frame (R19, R32, R33). The CRC is the register of R20, preset
to FFh, after every bit from the first KIND bit through the last body bit, sent top bit first without inversion; and the
receiver forms the same register over the bits it samples and fails a frame at the last CRC bit exactly when its value
differs from the received field (R20). -/
def Obligations.EveryFrameIsReadBackWhole : Prop :=
  let crc := fun covered : List Bool => covered.foldl
    (fun (reg : BitVec 8) bit => if (reg.getLsbD 7 ^^ bit) then (reg <<< 1) ^^^ 0x2F#8 else reg <<< 1) 0xFF#8
  let sent := fun v : BitVec 8 => (List.range 8).map fun i => v.getLsbD (7 - i)
  let num := fun w v : Nat => (List.range w).map fun i => v.testBit (w - 1 - i)
  let origin := fun o : Origin => match o with
    | .flta => 0
    | .fltb => 1
    | .escalate => 2
    | .group => 3
  let reason := fun r : LeaveReason => match r with
    | .requested => 0
    | .resync => 1
    | .clash => 2
  let mstate := fun m : Reported => match m with
    | .joining => 0
    | .active => 1
    | .draining => 2
  let covered := fun f : Frame => match f.body with
    | .fault b => num 2 0 ++ num 4 f.src.val ++ num 2 (origin b.origin) ++ [b.gtrip] ++ num 8 b.seq.toNat
    | .leave b => num 2 1 ++ num 4 f.src.val ++ num 8 b.seq.toNat ++ num 2 (reason b.reason)
    | .plan b => num 2 2 ++ num 4 f.src.val ++ num 8 b.epoch.toNat ++ num 4 b.issuer.val ++
        (List.range 16).map (fun i => b.members.getLsbD (15 - i)) ++ num 8 b.effSeq.toNat
    | .beacon b => num 2 3 ++ num 4 f.src.val ++ num 8 b.seq.toNat ++ num 12 b.stamp.toNat ++
        num 2 (mstate b.mstate) ++ [b.lock] ++ num 8 b.cepoch.toNat ++ [b.ppend] ++ num 8 b.pepoch.toNat ++
        num 4 b.lowest.toNat ++ num 4 b.count.toNat ++ num 12 b.cyclen.toNat
  (∀ f : Frame, judge (frameBits f) = .valid f ∧
    frameBits f = [false] ++ covered f ++ sent (crc (covered f)) ++ [true, true] ∧
    (frameBits f).length = (match f.body with
      | .fault _ => 28
      | .leave _ => 27
      | .plan _ => 53
      | .beacon _ => 77)) ∧
  (∀ bits : List Bool,
    let n := kindBits (sampledKind bits)
    n - 2 ≤ bits.length →
    (judge bits = .error (n - 3) ↔ sent (crc ((bits.drop 1).take (n - 11))) ≠ (bits.drop (n - 10)).take 8))

/-! ### Frames of peers -/

/-- A LEAVE of a peer makes a member's entry DEPARTED with the frame's SEQ, and clears a non-member's entry; nothing
else of the station changes but the receiver (R52, R44, R34). The premise leaves out states in which work of the
instant still waits (log 4). -/
def Obligations.LeaveFrameDepartsTheSender : Prop :=
  ∀ (c : Image) (s : State) (j : Station) (b : LeaveBody), AtFrameEnd c ⟨j, .leave b⟩ s → j ≠ c.station →
    exec (.leaveFrame j b) s = .next { s with
      link := Received s.link
      roster := putAt s.roster j
        (if inCurrent s j then { s.roster[j] with silence := 0, presence := .departed, lastSeq := b.seq }
          else Entry.cleared) }

/-- A FAULT of a peer marks its entry and raises PEER_FAULT; it trips the station, with a latch of origin GROUP and a
FAULT request of ORIGIN GROUP and GTRIP 0, exactly when GTRIP is 1, the sender was in the current set, the state is
ACTIVE or DRAINING, and HONOURTRIP is 1 (R51, R169, R166, R168). The history kept for a second cause of the latch's
instant is the model's (log 28). The premise leaves out states in which work of the instant still waits (log 4). -/
def Obligations.FaultFrameMarksAndTrips : Prop :=
  ∀ (c : Image) (s : State) (j : Station) (b : FaultBody), AtFrameEnd c ⟨j, .fault b⟩ s → j ≠ c.station →
    let entry := { s.roster[j] with
      silence := 0
      presence := (if inCurrent s j then .departed
        else if (s.roster[j]).presence = .absent then .heard else (s.roster[j]).presence)
      lastSeq := b.seq
      faultOrigin := some b.origin }
    let trips := b.gtrip = true ∧ inCurrent s j = true ∧ c.honourTrip = true ∧
      (s.member.state = .active ∨ s.member.state = .draining)
    (¬trips → exec (.fault j b) s = .next { s with
      link := Received s.link
      roster := putAt s.roster j entry
      port := { s.port with flags := s.port.flags ||| 0x0010#16, marks := s.port.marks &&& 0xFFEF#16 } }) ∧
    (trips → s.mon.latch = none →
      ∃ t, exec (.fault j b) s = .next t ∧ t.roster = putAt s.roster j entry ∧
        t.member = ⟨.faulted, none, none, none, 0, s.member.clashHold⟩ ∧
        t.mon = { s.mon with
          latchForce := true
          latch := some .group
          history := []
          emptied := s.mon.emptied ++ s.mon.history
          latches := (if s.mon.latches = 0xFFFF#16 then 0xFFFF#16 else s.mon.latches + 1) } ∧
        t.link.qFault = some ⟨⟨.group, false⟩, 0⟩ ∧ t.link.qBeacon = none ∧ t.link.qLeave = s.link.qLeave ∧
        t.link.qPlan = s.link.qPlan ∧ t.port.flags = s.port.flags ||| 0x0018#16 ∧
        t.port = { s.port with flags := t.port.flags, marks := s.port.marks &&& 0xFFE7#16 } ∧
        t.plan = (if s.member.state = .active then { s.plan with holdoff := none, repeats := 0 } else s.plan) ∧
        t.gen = (if s.member.state = .active then { s.gen with unbroken := false, markCount := 0 } else s.gen) ∧
        t = { s with
          link := t.link
          roster := t.roster
          member := t.member
          plan := t.plan
          gen := t.gen
          mon := t.mon
          port := t.port })

/-- A PLAN of a peer that a station with a timebase does not take: an empty set, an epoch not newer than the current
one, or one older than the pending plan's leaves every plan record and counter as it is; so does any PLAN without a
timebase. The sender's entry is refreshed all the same (R129, R130, R50). The premise leaves out states in which work
of the instant still waits (log 4). -/
def Obligations.IgnoredPlanChangesNoRecord : Prop :=
  ∀ (c : Image) (s : State) (j : Station) (r : PlanRecord), AtFrameEnd c ⟨j, .plan r⟩ s → j ≠ c.station →
    s.align.state = .free ∨ r.members = 0 ∨ (∀ e, s.plan.epoch = some e → newer r.epoch e = false) ∨
      (∃ h, s.plan.pending = some h ∧ r.epoch ≠ h.epoch ∧ newer r.epoch h.epoch = false) →
    exec (.plan j r) s = .next { s with
      link := Received s.link
      roster := putAt s.roster j { s.roster[j] with
        silence := 0
        presence := (if (s.roster[j]).presence = .absent then (if inCurrent s j then .member else .heard)
          else (s.roster[j]).presence) } }

/-- A PLAN newer than the current and the pending epoch is adopted with its four fields; a late one is rewritten to the
next sequence and counted; a stopped holdoff stays stopped, and a counting one stops when the desired set, taken
against the new plan, equals the plan's set, and restarts at H otherwise. The sender's entry is refreshed as by any
PLAN, and the repeats of a replaced own plan end (R130, R132, R124, R50, R44, R127). That they end at the adoption is
the model's reading (log 18), and the record of the plan last issued is the model's (log 13). The premise leaves out
states in which work of the instant still waits (log 4). -/
def Obligations.NewerPlanIsAdopted : Prop :=
  ∀ (c : Image) (s : State) (j : Station) (r : PlanRecord) (e : Epoch), AtFrameEnd c ⟨j, .plan r⟩ s →
    j ≠ c.station → s.align.state ≠ .free → r.members ≠ 0 → s.plan.epoch = some e → newer r.epoch e = true →
    (∀ h, s.plan.pending = some h → newer r.epoch h.epoch = true) →
    let late := ¬(1 ≤ (r.effSeq - s.timer.seq).toNat ∧ (r.effSeq - s.timer.seq).toNat ≤ 127)
    ∃ t, exec (.plan j r) s = .next t ∧
      (¬late → t.plan.pending = some r ∧ t.plan.late = s.plan.late) ∧
      (late → t.plan.pending = some { r with effSeq := s.timer.seq + 1 } ∧
        t.plan.late = (if s.plan.late = 0xFFFF#16 then 0xFFFF#16 else s.plan.late + 1)) ∧
      (s.plan.holdoff = none → t.plan.holdoff = none) ∧
      (s.plan.holdoff ≠ none → desiredSet c t = r.members → t.plan.holdoff = none) ∧
      (s.plan.holdoff ≠ none → desiredSet c t ≠ r.members → t.plan.holdoff = some (2 + 2 * c.station.val)) ∧
      t = { s with
        link := Received s.link
        roster := putAt s.roster j { s.roster[j] with
          silence := 0
          presence := (if (s.roster[j]).presence = .absent then (if inCurrent s j then .member else .heard)
            else (s.roster[j]).presence) }
        plan := { s.plan with
          pending := t.plan.pending
          late := t.plan.late
          holdoff := t.plan.holdoff
          repeats := (if t.plan.pending = s.plan.lastIssued then s.plan.repeats else 0) } }

/-- A PLAN of the pending epoch: the same set and EFFSEQ keeps the record and takes the lower issuer; a different one
raises PLANCONFLICT and replaces the record exactly when its issuer is lower, by an adoption with the late test and
the holdoff of one. The sender's entry is refreshed as by any PLAN, and the repeats of a replaced own plan end (R131,
R132, R124, R50, R44, R127). That they end at this PLAN is the model's reading (log 18), and the record of the plan last
issued is the model's (log 13). The premise leaves out states in which work of the instant still waits (log 4). -/
def Obligations.RivalPlanIsSettledByIssuer : Prop :=
  ∀ (c : Image) (s : State) (j : Station) (r h : PlanRecord) (e : Epoch), AtFrameEnd c ⟨j, .plan r⟩ s →
    j ≠ c.station → s.align.state ≠ .free → r.members ≠ 0 → s.plan.epoch = some e → newer r.epoch e = true →
    s.plan.pending = some h → r.epoch = h.epoch →
    let late := ¬(1 ≤ (r.effSeq - s.timer.seq).toNat ∧ (r.effSeq - s.timer.seq).toNat ≤ 127)
    let same := r.members = h.members ∧ r.effSeq = h.effSeq
    ∃ t, exec (.plan j r) s = .next t ∧
      (same → t.plan.pending = some { h with issuer := min r.issuer h.issuer } ∧
        t.plan.conflict = s.plan.conflict) ∧
      (¬same → t.plan.conflict = (if s.plan.conflict = 0xFFFF#16 then 0xFFFF#16 else s.plan.conflict + 1)) ∧
      (¬same → r.issuer < h.issuer → ¬late → t.plan.pending = some r ∧ t.plan.late = s.plan.late) ∧
      (¬same → r.issuer < h.issuer → late → t.plan.pending = some { r with effSeq := s.timer.seq + 1 } ∧
        t.plan.late = (if s.plan.late = 0xFFFF#16 then 0xFFFF#16 else s.plan.late + 1)) ∧
      (¬same → r.issuer < h.issuer → t.plan.holdoff = (if s.plan.holdoff = none then none
        else if desiredSet c t = r.members then none else some (2 + 2 * c.station.val))) ∧
      (¬same → h.issuer ≤ r.issuer → t.plan.pending = some h) ∧
      (same ∨ h.issuer ≤ r.issuer → t.plan.late = s.plan.late ∧ t.plan.holdoff = s.plan.holdoff) ∧
      t = { s with
        link := Received s.link
        roster := putAt s.roster j { s.roster[j] with
          silence := 0
          presence := (if (s.roster[j]).presence = .absent then (if inCurrent s j then .member else .heard)
            else (s.roster[j]).presence) }
        plan := { s.plan with
          pending := t.plan.pending
          conflict := t.plan.conflict
          late := t.plan.late
          holdoff := t.plan.holdoff
          repeats := (if (same ∧ r.issuer ≠ h.issuer ∨ ¬same ∧ r.issuer < h.issuer) ∧
            t.plan.pending ≠ s.plan.lastIssued then 0 else s.plan.repeats) } }

/-- A FREE station in DETACHED or LISTEN adopts the timebase of an ACTIVE BEACON of the own cycle length: the coarse
step, PULLING, the carried epoch as the current one, and JOINING from LISTEN, with no beacon point until the next
boundary. The sender's entry takes the reported fields, and every entry loses its deviation (R62, R63, R10, R11, R91,
R37, R118, R140, R44, R46, R47, R48, R49). That the step ends a hold is the model's reading (log 20). The order inside
one BEACON is the model's reading (log 15), and a step at the tick that ends a cycle takes the boundary's place (R12,
log 13). The premise leaves out states in which work of the instant still waits (log 4). -/
def Obligations.ActiveBeaconIsAdopted : Prop :=
  ∀ (c : Image) (s : State) (j : Station) (b : BeaconBody) (order : BeaconOrder),
    AtFrameEnd c ⟨j, .beacon b⟩ s → j ≠ c.station → s.align.state = .free →
    s.member.state = .detached ∨ s.member.state = .listen → b.mstate = .active → b.cyclen.toNat = c.p →
    s.plan.pending = none →
    let x := b.stamp.toNat + c.latency + s.timer.captureAge
    ∃ t, exec (.beacon j ⟨b, order⟩) s = .next t ∧
      t.timer = { s.timer with
        counter := x % c.p
        atEnd := false
        seq := b.seq + BitVec.ofNat 8 (x / c.p)
        length := c.p
        corr := 0
        trimTick := 0 } ∧
      t.align = { s.align with
        state := .pulling
        table := t.align.table
        mean := 0
        lockStreak := 0
        outlierStreak := 0
        windowCount := 0
        windowSum := 0 } ∧
      (∀ k : Station, t.align.table[k] = none) ∧
      (∀ k : Station, k ≠ j → t.roster[k] = { s.roster[k] with deviation := none }) ∧
      t.roster[j] = ⟨if inCurrent s j then (if (s.roster[j]).presence = .departed then .departed else .member) else .heard,
        some .active, b.lock, b.seq, none, 0, b.cepoch, if b.ppend then some b.pepoch else none,
        (s.roster[j]).faultOrigin⟩ ∧
      t.plan = { s.plan with epoch := some b.cepoch } ∧
      (s.member.state = .detached → t.member = s.member) ∧
      (s.member.state = .listen → t.member = ⟨.joining, none, some 0, none, 0, s.member.clashHold⟩) ∧
      t.gen = { s.gen with
        dueSeq := (if x % c.p < s.gen.phi then b.seq + BitVec.ofNat 8 (x / c.p)
          else b.seq + BitVec.ofNat 8 (x / c.p) + 1)
        hold := false } ∧
      t.link = (if s.member.state = .listen then
        { Received s.link with beaconPoint := none } else Received s.link) ∧
      t = { s with
        timer := t.timer
        link := t.link
        roster := t.roster
        align := t.align
        member := t.member
        plan := t.plan
        gen := t.gen }

/-- A BEACON of a reference sender is measured and any other is recorded: a usable deviation fills the sender's slot
and entry and ends the outlier streak; the entry takes the reported fields. The sender is a MEMBER of the current set,
or, for a station that holds none, a HEARD sender that reports ACTIVE (R65, R66, R67, R48, R46, R47). A station in
ACTIVE or DRAINING sends a member that lacks the pending plan that plan again, once a cycle (R128). Stated for every
BEACON that starts no resync, in whatever state the station measures: its epoch is no newer than the own, or the
pending plan excuses it, or the state makes no stale-epoch test of it (R108). A BEACON of a sender that is no reference
sender, or at a FREE station, that is neither adopted nor a cause of a resync changes the sender's entry alone:
EXCLUDED where CYCLEN differs from P, by the table of R46 in the current set, HEARD outside it, with the reported
fields written and the deviation kept (R45, R46, R47, R48, R49, R44, R62, R109). A FREE station is not ACTIVE or
DRAINING there, which no run makes it (R62). The order inside one BEACON is the model's reading (log 15). The premise
leaves out states in which work of the instant still waits (log 4). -/
def Obligations.ReferenceBeaconIsMeasured : Prop :=
  (∀ (c : Image) (s : State) (j : Station) (b : BeaconBody) (order : BeaconOrder) (cap : TimePair),
      AtFrameEnd c ⟨j, .beacon b⟩ s → j ≠ c.station → s.align.state ≠ .free → s.timer.capture = some cap →
      b.cyclen.toNat = c.p →
      (∀ e, s.plan.epoch = some e → newer b.cepoch e = true →
        (∃ r, s.plan.pending = some r ∧ (r.epoch = b.cepoch ∨ newer r.epoch b.cepoch = true)) ∨
          ¬(s.member.state = .active ∨ s.member.state = .draining ∨
            (s.member.state = .joining ∧ b.mstate = .active))) →
      (inCurrent s j = true ∧ (s.roster[j]).presence ≠ .departed ∧
          (b.mstate = .active ∨ (b.mstate = .joining ∧ (s.roster[j]).presence ≠ .silent))) ∨
        (s.plan.set = none ∧ b.mstate = .active) →
      let raw : Int := (cap.seq - b.seq).toNat
      let ds : Int := if 128 ≤ raw then raw - 256 else raw
      let d : Int := ds * c.p + cap.counter - b.stamp.toNat - c.latency
      2 * d.natAbs < c.p →
      let entry : Entry := ⟨if inCurrent s j then .member else .heard, some b.mstate, b.lock, b.seq, some d, 0, b.cepoch,
        if b.ppend then some b.pepoch else none, (s.roster[j]).faultOrigin⟩
      let relays := fun r : PlanRecord => s.plan.pending = some r ∧ inCurrent s j = true ∧
        (s.member.state = .active ∨ s.member.state = .draining) ∧ s.plan.relay = false ∧
        newer r.epoch b.cepoch = true ∧ (b.ppend = false ∨ newer r.epoch b.pepoch = true)
      let measured : State := { s with
        link := Received s.link
        roster := putAt s.roster j entry
        align := { s.align with table := putAt s.align.table j (some d), outlierStreak := 0 } }
      ((∀ r, ¬relays r) → exec (.beacon j ⟨b, order⟩) s = .next measured) ∧
      (∀ r, relays r → ∃ t, exec (.beacon j ⟨b, order⟩) s = .next t ∧
        t = { measured with link := t.link, plan := { s.plan with relay := true } } ∧
        t.link.qPlan = some ⟨r, 0⟩ ∧ t.link.qFault = s.link.qFault ∧ t.link.qLeave = s.link.qLeave ∧
        t.link.qBeacon = s.link.qBeacon ∧ t.link.rx = .hunt ∧ t.link.beaconPoint = s.link.beaconPoint ∧
        (s.link.tx = .idle ∨ s.link.tx = .defer → t.link.tx = .defer))) ∧
  (∀ (c : Image) (s : State) (j : Station) (b : BeaconBody) (order : BeaconOrder),
    AtFrameEnd c ⟨j, .beacon b⟩ s → j ≠ c.station →
    let member := inCurrent s j
    let presence : Presence :=
      if b.cyclen.toNat ≠ c.p then .excluded
      else if member = false then .heard
      else match b.mstate with
        | .active => if (s.roster[j]).presence = .departed then .departed else .member
        | .joining => if (s.roster[j]).presence = .departed then .departed
            else if (s.roster[j]).presence = .silent then .silent else .member
        | .draining => .departed
    let wasIn := s.member.state = .active ∨ s.member.state = .draining
    let reference := (s.plan.set ≠ none ∧ presence = .member) ∨
      (s.plan.set = none ∧ presence = .heard ∧ b.mstate = .active)
    let adopted := s.align.state = .free ∧ (s.member.state = .detached ∨ s.member.state = .listen) ∧
      b.mstate = .active ∧ b.cyclen.toNat = c.p
    let tested := (wasIn ∧ presence = .member) ∨
      (s.member.state = .joining ∧ b.mstate = .active ∧ (presence = .member ∨ presence = .heard))
    let excused := ∃ r, s.plan.pending = some r ∧ (r.epoch = b.cepoch ∨ newer r.epoch b.cepoch = true)
    let yields := s.member.state = .active ∧ b.mstate = .active ∧ presence = .heard ∧ member = false ∧
      (∃ m, s.plan.set = some m ∧ b.lowest.toNat < (lowestOf m).val) ∧
      ∀ r, s.plan.pending = some r → inSet r.members j = false
    (s.align.state = .free ∧ ¬wasIn) ∨ (s.align.state ≠ .free ∧ ¬reference) → ¬adopted → ¬yields →
    (∀ e, s.plan.epoch = some e → newer b.cepoch e = true → tested → excused) →
    exec (.beacon j ⟨b, order⟩) s = .next { s with
      link := Received s.link
      roster := putAt s.roster j ⟨presence, some b.mstate, b.lock, b.seq, (s.roster[j]).deviation, 0, b.cepoch,
        if b.ppend then some b.pepoch else none, (s.roster[j]).faultOrigin⟩ })

/-- A deviation of half a cycle or more from a reference sender is an outlier: it fills no slot, OUTLIER and the streak
rise, and the slot and the entry keep what they had. At a streak of 3 an ACTIVE, DRAINING or JOINING station, LOCKED or
PULLING, resyncs to LISTEN with everything R106 clears; a JOINING station queues no LEAVE, and LOCK_LOST is raised from
LOCKED only (R68, R69, R107, R106, R81). The sender is a reference sender as in R65. Stated for every BEACON that
starts no resync by its epoch (R108). The order inside one BEACON is the model's reading (log 15). The premise leaves
out states in which work of the instant still waits (log 4). -/
def Obligations.ThirdOutlierResyncs : Prop :=
  ∀ (c : Image) (s : State) (j : Station) (b : BeaconBody) (order : BeaconOrder) (cap : TimePair),
    AtFrameEnd c ⟨j, .beacon b⟩ s → j ≠ c.station → s.align.state ≠ .free → s.timer.capture = some cap →
    b.cyclen.toNat = c.p →
    (∀ e, s.plan.epoch = some e → newer b.cepoch e = true →
      (∃ r, s.plan.pending = some r ∧ (r.epoch = b.cepoch ∨ newer r.epoch b.cepoch = true)) ∨
        ¬(s.member.state = .active ∨ s.member.state = .draining ∨
          (s.member.state = .joining ∧ b.mstate = .active))) →
    (inCurrent s j = true ∧ (s.roster[j]).presence ≠ .departed ∧
        (b.mstate = .active ∨ (b.mstate = .joining ∧ (s.roster[j]).presence ≠ .silent))) ∨
      (s.plan.set = none ∧ b.mstate = .active) →
    let raw : Int := (cap.seq - b.seq).toNat
    let ds : Int := if 128 ≤ raw then raw - 256 else raw
    let d : Int := ds * c.p + cap.counter - b.stamp.toNat - c.latency
    (c.p : Int) ≤ 2 * d.natAbs →
    let wasIn := s.member.state = .active ∨ s.member.state = .draining
    let outliers := if s.align.outliers = 0xFFFF#16 then 0xFFFF#16 else s.align.outliers + 1
    ∃ t, exec (.beacon j ⟨b, order⟩) s = .next t ∧ t.link.rx = .hunt ∧ t.link.qFault = s.link.qFault ∧
      (s.align.outlierStreak < 2 ∨ ¬(wasIn ∨ s.member.state = .joining) →
        t.align = { s.align with outliers := outliers, outlierStreak := min (s.align.outlierStreak + 1) 3 } ∧
        t.roster = putAt s.roster j
          ⟨if inCurrent s j then .member else .heard, some b.mstate, b.lock, b.seq, (s.roster[j]).deviation, 0, b.cepoch,
            if b.ppend then some b.pepoch else none, (s.roster[j]).faultOrigin⟩ ∧
        t = { s with
          link := t.link
          roster := t.roster
          align := t.align
          plan := { s.plan with relay := t.plan.relay } }) ∧
      (2 ≤ s.align.outlierStreak → wasIn ∨ s.member.state = .joining →
        t.member = ⟨.listen, some 0, none, none, 0, s.member.clashHold⟩ ∧
        t.align = ⟨.free, t.align.table, 0, 0, 0, 0, 0, outliers⟩ ∧
        (∀ k : Station, t.roster[k] = Entry.cleared ∧ t.align.table[k] = none) ∧
        t.plan = { PlanCtl.reset with issued := s.plan.issued, conflict := s.plan.conflict, late := s.plan.late } ∧
        t.link.qLeave = (if wasIn then some ⟨.resync, 0⟩ else s.link.qLeave) ∧ t.link.qBeacon = none ∧
        t.link.qPlan = none ∧
        t.port.flags = s.port.flags ||| (if s.align.state = .locked then 0x0880#16 else 0x0800#16) ∧
        t.gen = (if s.member.state = .active then { s.gen with unbroken := false, markCount := 0 } else s.gen) ∧
        t = { s with
          link := t.link
          roster := t.roster
          align := t.align
          member := t.member
          plan := t.plan
          gen := t.gen
          port := t.port })

/-- A BEACON of a tested sender with a newer CEPOCH and no excusing pending plan is a stale epoch: an ACTIVE or
DRAINING station resyncs at one of a MEMBER, whether it reports ACTIVE or JOINING, a JOINING station at one of a MEMBER
or a HEARD sender that reports ACTIVE; so does an ACTIVE station at a foreign member whose LOWEST is lower than its own
(R108, R109, R106). The BEACON carries the capture of its SOF edge, and its deviation is usable or its sender is no
reference sender. Taken first, the BEACON is measured and the station ends FREE in LISTEN; with the resync first, the
frame finds the station FREE in LISTEN, which adopts it at once when it reports ACTIVE (R81, R62, R63). The operand for
that order, and the order of the blocks inside one BEACON, are the model's reading (log 15). The premise leaves out
states in which work of the instant still waits (log 4). -/
def Obligations.StaleEpochOrMergeResyncs : Prop :=
  ∀ (c : Image) (s : State) (j : Station) (b : BeaconBody) (e : Epoch) (cap : TimePair),
    AtFrameEnd c ⟨j, .beacon b⟩ s → j ≠ c.station → b.cyclen.toNat = c.p →
    s.plan.epoch = some e → s.timer.capture = some cap → s.align.state ≠ .free →
    let raw : Int := (cap.seq - b.seq).toNat
    let ds : Int := if 128 ≤ raw then raw - 256 else raw
    let d : Int := ds * c.p + cap.counter - b.stamp.toNat - c.latency
    let wasIn := s.member.state = .active ∨ s.member.state = .draining
    2 * d.natAbs < c.p ∨ (∃ m, s.plan.set = some m ∧ inSet m j = false) →
    ((wasIn ∧ inCurrent s j = true ∧ (s.roster[j]).presence ≠ .departed ∧
        (b.mstate = .active ∨ (b.mstate = .joining ∧ (s.roster[j]).presence ≠ .silent)) ∧ newer b.cepoch e = true ∧
        ∀ r, s.plan.pending = some r → r.epoch ≠ b.cepoch ∧ newer r.epoch b.cepoch = false) ∨
      (s.member.state = .joining ∧ b.mstate = .active ∧ (inCurrent s j = true → (s.roster[j]).presence ≠ .departed) ∧
        newer b.cepoch e = true ∧
        ∀ r, s.plan.pending = some r → r.epoch ≠ b.cepoch ∧ newer r.epoch b.cepoch = false) ∨
      (s.member.state = .active ∧ b.mstate = .active ∧ inCurrent s j = false ∧
        (∃ m, s.plan.set = some m ∧ b.lowest.toNat < (lowestOf m).val) ∧
        ∀ r, s.plan.pending = some r → inSet r.members j = false)) →
    let resynced := fun t : State => (∀ k : Station, t.align.table[k] = none) ∧
      t.plan.set = none ∧ t.plan.place = none ∧ t.plan.pending = none ∧ t.plan.holdoff = none ∧ t.plan.repeats = 0 ∧
      t.link.qLeave = (if wasIn then some ⟨.resync, 0⟩ else s.link.qLeave) ∧ t.link.qBeacon = none ∧
      t.link.qPlan = none ∧ t.link.qFault = s.link.qFault ∧ t.link.rx = .hunt ∧
      t.port.flags = s.port.flags ||| (if s.align.state = .locked then 0x0880#16 else 0x0800#16) ∧
      t.mon = s.mon ∧ t.loader = s.loader ∧ t.line = s.line ∧ t.pending = s.pending
    let listening := fun t : State => t.member = ⟨.listen, some 0, none, none, 0, s.member.clashHold⟩ ∧
      t.align.state = .free ∧ t.plan.epoch = none ∧ t.timer = s.timer ∧
      t.gen = (if s.member.state = .active then { s.gen with unbroken := false, markCount := 0 } else s.gen)
    let heard := fun t : State => ∀ k : Station, t.roster[k] = if k = j then
      ⟨.heard, some b.mstate, b.lock, b.seq, none, 0, b.cepoch, if b.ppend then some b.pepoch else none, none⟩
      else Entry.cleared
    (∃ t, exec (.beacon j ⟨b, .beaconFirst⟩) s = .next t ∧ resynced t ∧ listening t ∧
      (∀ k : Station, t.roster[k] = Entry.cleared)) ∧
    (b.mstate = .joining →
      ∃ t, exec (.beacon j ⟨b, .resyncFirst⟩) s = .next t ∧ resynced t ∧ listening t ∧ heard t) ∧
    (b.mstate = .active → ∃ t, exec (.beacon j ⟨b, .resyncFirst⟩) s = .next t ∧ resynced t ∧ heard t ∧
      t.member = ⟨.joining, none, some 0, none, 0, s.member.clashHold⟩ ∧ t.align.state = .pulling ∧
      t.plan.epoch = some b.cepoch ∧ t.link.beaconPoint = none ∧
      t.timer = { s.timer with
        counter := (b.stamp.toNat + c.latency + s.timer.captureAge) % c.p
        atEnd := false
        seq := b.seq + BitVec.ofNat 8 ((b.stamp.toNat + c.latency + s.timer.captureAge) / c.p)
        length := c.p
        corr := 0
        trimTick := 0 } ∧
      t.gen.phi = s.gen.phi ∧ t.gen.kind = s.gen.kind)

/-- A frame of the own number is a clash, whichever command brings it: CLASH is raised and the clash hold set in every
state; ACTIVE and DRAINING queue LEAVE(CLASH); every state but FAULTED ends DETACHED; on that entry from another state
every window stops, the attempt count is 0, and the waiting BEACON and PLAN requests are withdrawn, the FAULT request
staying; in DETACHED and FAULTED the membership stays but for the clash hold. Roster, alignment, timebase and plan
records stay (R35, R34, R111, R24, R25, R38, R86, R153). The flag of an unbroken ACTIVE is the model's (log 13). The
four equations are the model's choice (log 23). The premise leaves out states in which work of the instant still waits
(log 4). -/
def Obligations.ClashDetachesTheStation : Prop :=
  ∀ (c : Image) (s : State), Configured c s →
    (∀ b order, exec (.beacon c.station ⟨b, order⟩) s = exec (.clashFrame (.beacon b)) s) ∧
    (∀ r, exec (.plan c.station r) s = exec (.clashFrame (.plan r)) s) ∧
    (∀ b, exec (.fault c.station b) s = exec (.clashFrame (.fault b)) s) ∧
    (∀ b, exec (.leaveFrame c.station b) s = exec (.clashFrame (.leave b)) s) ∧
    ∀ body : FrameBody, AtFrameEnd c ⟨c.station, body⟩ s → s.member.state ≠ .unconfigured →
      ∃ t, exec (.clashFrame body) s = .next t ∧
        (s.member.state = .faulted ∨ s.member.state = .detached → t.member = { s.member with clashHold := true } ∧
          t.link = Received s.link) ∧
        (¬(s.member.state = .faulted ∨ s.member.state = .detached) →
          t.member = ⟨.detached, none, none, none, 0, true⟩ ∧ t.link.qBeacon = none ∧ t.link.qPlan = none ∧
          (s.link.tx = .idle ∨ s.link.tx = .defer →
            t.link.tx = if t.link.qFault.isSome || t.link.qLeave.isSome then .defer else .idle)) ∧
        t.link.qFault = s.link.qFault ∧ t.link.backoff = s.link.backoff ∧ t.link.beaconPoint = s.link.beaconPoint ∧
        t.port = { s.port with flags := s.port.flags ||| 0x0400#16, marks := s.port.marks &&& 0xFBFF#16 } ∧
        (s.member.state = .active ∨ s.member.state = .draining → t.link.qLeave = some ⟨.clash, 0⟩) ∧
        (¬(s.member.state = .active ∨ s.member.state = .draining) → t.link.qLeave = s.link.qLeave) ∧
        t.link.framesRx = (if s.link.framesRx = 0xFFFF#16 then 0xFFFF#16 else s.link.framesRx + 1) ∧
        t.link.rx = .hunt ∧
        t.plan = (if s.member.state = .active then { s.plan with holdoff := none, repeats := 0 } else s.plan) ∧
        t.gen = (if s.member.state = .active then { s.gen with unbroken := false, markCount := 0 } else s.gen) ∧
        t = { s with
          link := t.link
          member := t.member
          plan := t.plan
          gen := t.gen
          port := t.port }

/-! ### The gate -/

/-- A phase point, as one operation: the demand is taken, φ walks the shorter way by at most WALKSTEP with the due
sequence of the table of R144, the cycle is live exactly in ACTIVE, MARK starts in ACTIVE, and the monitor enters the
ended cycle, ends its forces and cuts the new cycle from its start. It stands in the due cycle at counter φ, or in the
following cycle when the due cycle was too short, and is not held (R139, R141, R145, R147, R153, R161). The flag of an
unbroken ACTIVE (log 13) and the history kept for a second cause of a latch's instant (log 28) are the model's. That a
full history's cut count is that of R164, where a sentence of R165 differs, is the model's reading (log 29). -/
def Obligations.PhasePointTakesDemandWalksAndBegins : Prop :=
  ∀ (c : Image) (s : State), Configured c s → s.gen.hold = false →
    (s.gen.dueSeq = s.timer.seq ∧ s.gen.phi = s.timer.counter ∧ s.timer.counter < s.timer.length) ∨
      (s.timer.seq = s.gen.dueSeq + 1 ∧ s.gen.phi = s.timer.prevLength + s.timer.counter) →
    s.gen.kind ≠ some .live ∨ (s.gen.interval = some .otb ∧ c.otbMin ≤ s.gen.age) →
    s.gen.kind = none ∨ ¬Escalating c s →
    let fwd := (s.gen.held + c.p - s.gen.phi) % c.p
    let bwd := (s.gen.phi + c.p - s.gen.held) % c.p
    let move : Int := if s.gen.phi = s.gen.held then 0
      else if fwd ≤ bwd then (min c.walkStep fwd : Nat) else -((min c.walkStep bwd : Nat) : Int)
    let cutA := decide (c.flta.mode = .cut) && s.mon.a.asserted
    let cutB := decide (c.fltb.mode = .cut) && s.mon.b.asserted
    let live := decide (s.member.state = .active)
    let cutNow := (cutA || cutB) && live
    let clipped := decide (s.gen.ceiling < s.gen.staged.toNat)
    let entry : CutEntry := ⟨s.mon.a.cutMark, s.mon.b.cutMark⟩
    ∃ t, exec .phasePoint s = .next t ∧ t = { s with gen := t.gen, mon := t.mon, port := t.port } ∧
      t.gen = { s.gen with
        phi := ((s.gen.phi + move) % (c.p : Int)).toNat
        dueSeq := s.gen.dueSeq +
          (if (c.p : Int) ≤ s.gen.phi + move then 2 else if (s.gen.phi : Int) + move < 0 then 0 else 1)
        kind := some (if live then .live else .dark)
        interval := if live then some .dta else none
        age := 0
        unbroken := live
        otaEff := min s.gen.staged.toNat s.gen.ceiling
        markCount := if live then 4 else s.gen.markCount } ∧
      t.mon = { s.mon with
        a := { s.mon.a with holdForce := s.mon.a.holdForce && s.mon.a.asserted, cutMark := cutA && live }
        b := { s.mon.b with holdForce := s.mon.b.holdForce && s.mon.b.asserted, cutMark := cutB && live }
        cutForce := cutA || cutB
        history := (if s.gen.kind = none then s.mon.history
          else if s.mon.history.length < 64 then s.mon.history ++ [entry]
          else s.mon.history.drop (s.mon.history.length - 63) ++ [entry])
        emptied := []
        cutCycles := (if cutNow && s.mon.cutCycles != 0xFFFF#16 then s.mon.cutCycles + 1 else s.mon.cutCycles) } ∧
      t.port.flags = s.port.flags ||| (if clipped then 0x0200#16 else 0) ||| (if cutNow then 0x0100#16 else 0) ∧
      t.port = { s.port with flags := t.port.flags, marks := t.port.marks }

/-- A phase point whose instant comes before OTB has lasted OTBMIN is held: the hold flag is set and nothing else
changes. Once OTB has lasted OTBMIN the held point is taken and begins a dark cycle whatever the membership state, with
the walk from the φ and the due sequence it had. When the instant of the next point has also passed, that point is
taken directly after it: it walks again, ends the dark cycle and begins a cycle that is live exactly in ACTIVE (R143,
R139, R145, R147, R161). Which next points count as passed is the model's reading (log 20), and the flag of an unbroken
ACTIVE (log 13) and the history kept for the instant of a latch (log 28) are the model's. That a full history's cut
count is that of R164, where a sentence of R165 differs, is the model's reading (log 29). -/
def Obligations.EarlyPhasePointIsHeldAndThenTakenDark : Prop :=
  ∀ (c : Image) (s : State), Configured c s → s.gen.kind = some .live →
    (s.gen.hold = false →
      (s.gen.dueSeq = s.timer.seq ∧ s.gen.phi = s.timer.counter ∧ s.timer.counter < s.timer.length) ∨
        (s.timer.seq = s.gen.dueSeq + 1 ∧ s.gen.phi = s.timer.prevLength + s.timer.counter) →
      (s.gen.interval = some .otb ∧ s.gen.age < c.otbMin) ∨ (s.gen.interval = some .dtb ∧ s.gen.age < c.dtb) ∨
        (s.gen.interval = some .ota ∧ s.gen.age < s.gen.otaEff) ∨
        (s.gen.interval = some .dta ∧ s.gen.age < c.dta) →
      exec .phasePoint s = .next { s with gen := { s.gen with hold := true } }) ∧
    (s.gen.hold = true → s.gen.interval = some .otb → c.otbMin ≤ s.gen.age → ¬Escalating c s →
      let g := s.gen.walk c
      let back := (s.timer.seq - g.dueSeq).toNat
      let passed := (back = 0 ∧ g.phi < s.timer.length ∧ g.phi ≤ s.timer.counter) ∨
        (back = 1 ∧ g.phi ≤ s.timer.prevLength + s.timer.counter) ∨ (2 ≤ back ∧ back < 128)
      let active := decide (s.member.state = .active)
      let taken : Gen := { g with
        kind := some .dark
        interval := none
        age := 0
        hold := false
        unbroken := false
        otaEff := min s.gen.staged.toNat s.gen.ceiling
        markCount := if active then 4 else s.gen.markCount }
      let next : Gen := { taken.walk c with
        kind := some (if active then .live else .dark)
        interval := if active then some .dta else none
        unbroken := active }
      let cutA := decide (c.flta.mode = .cut) && s.mon.a.asserted
      let cutB := decide (c.fltb.mode = .cut) && s.mon.b.asserted
      let cutNow := (cutA || cutB) && active
      let clipped := decide (s.gen.ceiling < s.gen.staged.toNat)
      let join := fun (h : List CutEntry) (e : CutEntry) =>
        if h.length < 64 then h ++ [e] else h.drop (h.length - 63) ++ [e]
      let entry : CutEntry := ⟨s.mon.a.cutMark, s.mon.b.cutMark⟩
      let rest := fun (a b : Bool) (history : List CutEntry) (cycles : BitVec 16) => { s.mon with
        a := { s.mon.a with holdForce := s.mon.a.holdForce && s.mon.a.asserted, cutMark := a }
        b := { s.mon.b with holdForce := s.mon.b.holdForce && s.mon.b.asserted, cutMark := b }
        cutForce := cutA || cutB
        history := history
        emptied := []
        cutCycles := cycles }
      ∃ t, exec .heldPhasePoint s = .next t ∧ t = { s with gen := t.gen, mon := t.mon, port := t.port } ∧
        t.port = { s.port with flags := t.port.flags, marks := t.port.marks } ∧
        (¬passed → t.gen = taken ∧ t.mon = rest false false (join s.mon.history entry) s.mon.cutCycles ∧
          t.port.flags = s.port.flags ||| (if clipped then 0x0200#16 else 0)) ∧
        (passed → t.gen = next ∧
          t.mon = rest (cutA && active) (cutB && active) (join (join s.mon.history entry) ⟨false, false⟩)
            (if cutNow && s.mon.cutCycles != 0xFFFF#16 then s.mon.cutCycles + 1 else s.mon.cutCycles) ∧
          t.port.flags = s.port.flags ||| (if clipped then 0x0200#16 else 0) |||
            (if cutNow then 0x0100#16 else 0)))

/-- Escalation: when the ended cycle's entry brings the cut count to CUTLIMIT, the phase point latches with origin
ESCALATE; an ACTIVE or DRAINING station queues a FAULT whose GTRIP is that of the lines the entry names; the cycle that
begins is still of the kind the station's state had at the point: live in ACTIVE, from its dead time on, and dark in
every other state; its demand and its walk are those of any phase point, and MARK is low where the station leaves
ACTIVE. While latched it is a second latch: LATCHES rises, the entry joins the history, which is not emptied, and
record, membership, queue and FAULT_LATCHED stay. With a LATCH line that qualifies at the same instant LATCHES rises by
two in either order, and origin and FAULT request are those of the cause taken first (R165, R166, R167, R168, R102,
R139, R141, R147, R153, R174). The flag of an unbroken ACTIVE is the model's (log 13), and so is the history kept for a
second cause of a latch's instant (log 28). That a full history's cut count is that of R164, where a sentence of R165
differs, is the model's reading (log 29), and so is that while latched every entry at or above CUTLIMIT is a second
latch, of a cycle cut before the latch too (log 30), and that an entry right after a CLEAR FAULT of its instant is
tested (log 33). -/
def Obligations.EscalatingPhasePointLatches : Prop :=
  ∀ (c : Image) (s : State), Configured c s → s.gen.hold = false → s.gen.kind = some .live →
    s.gen.dueSeq = s.timer.seq → s.gen.phi = s.timer.counter → s.timer.counter < s.timer.length →
    s.gen.interval = some .otb → c.otbMin ≤ s.gen.age → Escalating c s →
    let wasIn := s.member.state = .active ∨ s.member.state = .draining
    let entry : CutEntry := ⟨s.mon.a.cutMark, s.mon.b.cutMark⟩
    let trip := (entry.flta && c.flta.groupTrip) || (entry.fltb && c.fltb.groupTrip)
    let up := fun n : BitVec 16 => if n = 0xFFFF#16 then 0xFFFF#16 else n + 1
    let live := decide (s.member.state = .active)
    let begun : Gen := { s.gen.walk c with
      kind := some (if live then .live else .dark)
      interval := if live then some .dta else none
      age := 0
      unbroken := live
      otaEff := min s.gen.staged.toNat s.gen.ceiling
      markCount := if live then 4 else s.gen.markCount }
    (s.mon.latch = none →
      ∃ t, exec .phasePoint s = .next t ∧
        t.member = ⟨.faulted, none, none, none, 0, s.member.clashHold⟩ ∧
        t.mon.latch = some .escalate ∧ t.mon.latchForce = true ∧ t.mon.history = [] ∧ t.mon.emptied = [] ∧
        t.mon.latches = up s.mon.latches ∧ t.port.flags.getLsbD 3 = true ∧
        (wasIn → t.link.qFault = some ⟨⟨.escalate, trip⟩, 0⟩) ∧ (¬wasIn → t.link.qFault = s.link.qFault) ∧
        t.link.qBeacon = none ∧ t.link.qLeave = s.link.qLeave ∧ t.link.qPlan = s.link.qPlan ∧
        t.gen = (if live then { begun with unbroken := false, markCount := 0 } else begun) ∧
        gaActive t = false ∧ gbActive t = false ∧
        t.plan = (if s.member.state = .active then { s.plan with holdoff := none, repeats := 0 } else s.plan) ∧
        t = { s with link := t.link, member := t.member, plan := t.plan, gen := t.gen, mon := t.mon, port := t.port }) ∧
    (s.mon.latch.isSome = true →
      ∃ t, exec .phasePoint s = .next t ∧ t.mon.latches = up s.mon.latches ∧ t.mon.latch = s.mon.latch ∧
        t.mon.latchForce = s.mon.latchForce ∧ t.mon.emptied = [] ∧
        t.mon.history = (if s.mon.history.length < 64 then s.mon.history ++ [entry]
          else s.mon.history.drop (s.mon.history.length - 63) ++ [entry]) ∧
        t.port.flags.getLsbD 3 = s.port.flags.getLsbD 3 ∧ t.gen = begun ∧
        t = { s with gen := t.gen, mon := t.mon, port := t.port }) ∧
    (∀ l : FaultLine, s.mon.latch = none → (c.line l).mode = .latch → (s.mon.line l).phase = (c.line l).sample →
      (s.mon.line l).asserted = false → (c.line l).count ≤ (s.mon.line l).runCount + 1 →
      let origin := match l with
        | .flta => Origin.flta
        | .fltb => Origin.fltb
      let taken := fun (u : State) (o : Origin) (g : Bool) =>
        u.mon.latch = some o ∧ u.mon.latches = up (up s.mon.latches) ∧ u.member.state = .faulted ∧
        (wasIn → u.link.qFault = some ⟨⟨o, g⟩, 0⟩) ∧ (¬wasIn → u.link.qFault = s.link.qFault)
      (∃ t u, exec (.lineSample l (c.line l).asserted) s = .next t ∧ exec .phasePoint t = .next u ∧
        taken u origin (c.line l).groupTrip) ∧
      (∃ t u, exec .phasePoint s = .next t ∧ exec (.lineSample l (c.line l).asserted) t = .next u ∧
        taken u .escalate trip))

/-- The intervals of a live cycle follow each other as they run out, an empty OTA being passed over; and a MARK pulse
ends at the tick at which its count has run (R142, R153). That MARK_END brings the own time to the end of the pulse is
the model's (log 3). -/
def Obligations.IntervalsRunInOrderAndMarkEnds : Prop :=
  ∀ (c : Image) (s : State), Configured c s →
    (s.gen.interval = some .dta → s.gen.age = c.dta →
      exec .intervalEnd s = .next { s with gen := { s.gen with
        interval := some (if s.gen.otaEff = 0 then .dtb else .ota), age := 0 } }) ∧
    (s.gen.interval = some .ota → s.gen.age = s.gen.otaEff →
      exec .intervalEnd s = .next { s with gen := { s.gen with interval := some .dtb, age := 0 } }) ∧
    (s.gen.interval = some .dtb → s.gen.age = c.dtb →
      exec .intervalEnd s = .next { s with gen := { s.gen with interval := some .otb, age := 0 } }) ∧
    (s.gen.markCount = 0 → exec .markEnd s = .next s) ∧
    (s.gen.markCount = 1 → dueNow s = none →
      ∃ t, exec .markEnd s = .next t ∧ markHigh t = false ∧
        t.timer.counter = (if s.timer.counter + 1 < s.timer.length then s.timer.counter + 1 else s.timer.counter) ∧
        t.timer.seq = s.timer.seq ∧ t.timer.length = s.timer.length ∧ t.gen.phi = s.gen.phi ∧
        t.gen.dueSeq = s.gen.dueSeq ∧ t.gen.kind = s.gen.kind ∧ t.gen.interval = s.gen.interval ∧
        t.roster = s.roster ∧ t.align = s.align ∧ t.member = s.member ∧ t.plan = s.plan ∧ t.loader = s.loader ∧
        t.port = s.port ∧ t.pending = s.pending)

/-- The pins: GA and GB are high impedance without an image; with one, a pin shows its active level only while the
station is ACTIVE without a break since the phase point of its live cycle and no force stands, GA in OTA and GB in OTB,
so never both; MARK is high exactly while its count is above 0; ALERT# is asserted exactly while a set flag is enabled.
PB is driven low exactly over the ticks of the dominant bits of the frame in flight, BITTIME ticks a bit from the SOF
edge on, and never without a frame, and it reads recessive exactly when neither this station nor another drives it.
CP_SDO is driven exactly in an open transaction, and CFG_SCL and CFG_SDA are released except in an attempt. After
power-on and RESET# GA and GB are high impedance, MARK is low, and every other pin is released (R16, R17, R142, R151,
R152, R153, R156, R173, R179, R182, R185, R187, R198). The pins as functions of the state, the levels of the other
stations, CP_SDO in an IGNORED transaction after a reset, and the attempt as one stretch of use of the configuration
lines are the model's (log 10, log 7, log 26, log 16), and so is the flag of an unbroken ACTIVE (log 13). -/
def Obligations.OutputPinsFollowTheirConditions : Prop :=
  ∀ s : State,
    let allowed := s.member.state = .active ∧ s.gen.kind = some .live ∧ s.gen.unbroken = true ∧
      s.mon.cutForce = false ∧ s.mon.a.holdForce = false ∧ s.mon.b.holdForce = false ∧ s.mon.latchForce = false
    (gaActive s = true ↔ allowed ∧ s.gen.interval = some .ota) ∧
    (gbActive s = true ↔ allowed ∧ s.gen.interval = some .otb) ∧
    ¬(gaActive s = true ∧ gbActive s = true) ∧
    (s.loader.config = none → gaPin s = .highZ ∧ gbPin s = .highZ) ∧
    (∀ c, s.loader.config = some c →
      (gaActive s = true → gaPin s = .driven (if c.activeLow then .low else .high)) ∧
      (gaActive s = false → gaPin s = .driven (if c.activeLow then .high else .low)) ∧
      (gbActive s = true → gbPin s = .driven (if c.activeLow then .low else .high)) ∧
      (gbActive s = false → gbPin s = .driven (if c.activeLow then .high else .low))) ∧
    (alertAsserted s = true ↔ ∃ n, n < 16 ∧ s.port.flags.getLsbD n = true ∧ s.port.mask.getLsbD n = true) ∧
    (markHigh s = true ↔ 0 < s.gen.markCount) ∧
    (s.loader.config = none ∨ s.link.inFlight = none → drivesPb s = false) ∧
    (TransmitSound s → s.link.tx ≠ .sending → drivesPb s = false) ∧
    (∀ c f, s.loader.config = some c → s.link.inFlight = some f →
      (∀ i bit, (frameBits f.frame)[i]? = some bit → i * c.bitTime ≤ s.timer.captureAge →
        s.timer.captureAge < (i + 1) * c.bitTime → (drivesPb s = true ↔ bit = false)) ∧
      (0 < c.bitTime → (frameBits f.frame).length * c.bitTime ≤ s.timer.captureAge → drivesPb s = false)) ∧
    (pbRecessive s = true ↔ drivesPb s = false ∧ s.line.head? ≠ some false) ∧
    ((∃ n, s.port.txn = .opened n) → sdoDriven s = true) ∧
    (s.port.txn = .closed ∨ s.port.txn = .ignored → sdoDriven s = false) ∧
    (s.loader.load = .reading → cfgReleased s = false) ∧
    (s.loader.load ∈ [.held, .retryWait, .accepted, .refused] → cfgReleased s = true) ∧
    (∀ i ∈ [Instr.powerOn, .resetPin], ∃ t, exec i s = .next t ∧ gaPin t = .highZ ∧ gbPin t = .highZ ∧
      markHigh t = false ∧ alertAsserted t = false ∧ drivesPb t = false ∧ sdoDriven t = false ∧ cfgReleased t = true)

/-! ### The fault lines -/

/-- A sample that equals the qualified level clears the run count; one that differs raises it, and at COUNT the level
follows. Nothing else changes while the line does not qualify ASSERTED (R157, R158, R159). The level kept of the pin
is the model's (log 11). -/
def Obligations.LineSampleQualifiesTheLine : Prop :=
  ∀ (c : Image) (s : State) (l : FaultLine) (pin : Level), Configured c s →
    let x := s.mon.line l
    let set := c.line l
    x.phase = set.sample →
    let after := fun y : LineState => { s with mon := s.mon.setLine l y }
    (decide (pin = set.asserted) = x.asserted →
      exec (.lineSample l pin) s = .next (after { x with phase := 0, pin := pin, runCount := 0 })) ∧
    (decide (pin = set.asserted) ≠ x.asserted → x.runCount + 1 < set.count →
      exec (.lineSample l pin) s = .next (after { x with phase := 0, pin := pin, runCount := x.runCount + 1 })) ∧
    (pin ≠ set.asserted → x.asserted = true → set.count ≤ x.runCount + 1 →
      exec (.lineSample l pin) s =
        .next (after { x with phase := 0, pin := pin, runCount := 0, asserted := false }))

/-- A line that qualifies ASSERTED acts by its MODE: OFF does nothing, HOLD sets its hold force, CUT sets the cut
force and marks and counts a live cycle once, LATCH latches with the line's origin and GTRIP, and a second latch only
counts (R159, R160, R163, R166, R167, R168, R102). The level kept of the pin is the model's (log 11), and so is the
history kept for a second cause of a latch's instant (log 28). -/
def Obligations.QualifiedLineActsByItsMode : Prop :=
  ∀ (c : Image) (s : State) (l : FaultLine), Configured c s →
    let x := s.mon.line l
    let set := c.line l
    x.phase = set.sample → x.asserted = false → set.count ≤ x.runCount + 1 →
    let y := { x with phase := 0, pin := set.asserted, runCount := 0, asserted := true }
    let mon := s.mon.setLine l y
    let origin := match l with
      | .flta => Origin.flta
      | .fltb => Origin.fltb
    let wasIn := s.member.state = .active ∨ s.member.state = .draining
    (set.mode = .off → exec (.lineSample l set.asserted) s = .next { s with mon := mon }) ∧
    (set.mode = .hold →
      exec (.lineSample l set.asserted) s = .next { s with mon := s.mon.setLine l { y with holdForce := true } }) ∧
    (set.mode = .cut → s.gen.kind ≠ some .live →
      exec (.lineSample l set.asserted) s = .next { s with mon := { mon with cutForce := true } }) ∧
    (set.mode = .cut → s.gen.kind = some .live →
      let cut := { s.mon.setLine l { y with cutMark := true } with cutForce := true }
      ((s.mon.a.cutMark = true ∨ s.mon.b.cutMark = true) →
        exec (.lineSample l set.asserted) s = .next { s with mon := cut }) ∧
      (s.mon.a.cutMark = false → s.mon.b.cutMark = false →
        exec (.lineSample l set.asserted) s = .next { s with
          mon := { cut with
            cutCycles := (if s.mon.cutCycles = 0xFFFF#16 then 0xFFFF#16 else s.mon.cutCycles + 1) }
          port := { s.port with flags := s.port.flags ||| 0x0100#16, marks := s.port.marks &&& 0xFEFF#16 } })) ∧
    (set.mode = .latch → s.mon.latch.isSome = true →
      exec (.lineSample l set.asserted) s = .next { s with
        mon := { mon with latches := (if s.mon.latches = 0xFFFF#16 then 0xFFFF#16 else s.mon.latches + 1) } }) ∧
    (set.mode = .latch → s.mon.latch = none →
      ∃ t, exec (.lineSample l set.asserted) s = .next t ∧
        t.mon = { mon with
          latchForce := true
          latch := some origin
          history := []
          emptied := s.mon.emptied ++ s.mon.history
          latches := (if s.mon.latches = 0xFFFF#16 then 0xFFFF#16 else s.mon.latches + 1) } ∧
        t.member = ⟨.faulted, none, none, none, 0, s.member.clashHold⟩ ∧
        (wasIn → t.link.qFault = some ⟨⟨origin, set.groupTrip⟩, 0⟩) ∧ (¬wasIn → t.link.qFault = s.link.qFault) ∧
        t.link.qBeacon = none ∧ t.link.qLeave = s.link.qLeave ∧ t.link.qPlan = s.link.qPlan ∧
        t.plan = (if s.member.state = .active then { s.plan with holdoff := none, repeats := 0 } else s.plan) ∧
        t.gen = (if s.member.state = .active then { s.gen with unbroken := false, markCount := 0 } else s.gen) ∧
        t.port = { s.port with flags := s.port.flags ||| 0x0008#16, marks := s.port.marks &&& 0xFFF7#16 } ∧
        t = { s with link := t.link, member := t.member, plan := t.plan, gen := t.gen, mon := t.mon, port := t.port })

/-! ### The control port -/

/-- STATUS READ and ALIGN READ shift out the status byte and then the record whole, as it stands when byte 1 begins,
most significant bit first, with 00h after its end; they change no other block, no flag and no result. The status byte
and the 28 and 8 bytes of the two records are spelled out (R186, R191, R192, R199, R185). A whole transaction as one
command is the model's (log 8), and so is what a copy shows at a boundary's instant while a work of that boundary is
still due: c before the limit of an entry to ACTIVE (log 24), and T before the trim step and a STATUS READ after the
works taken so far (log 27). That a full history's cut count is that of R164, where a sentence of R165 differs, is the
model's reading (log 29). -/
def Obligations.RecordReadsShiftOutTheRecord : Prop :=
  ∀ (s : State) (bytes : List Byte), PortReady s →
    let hi := fun v : BitVec 16 => v.extractLsb' 8 8
    let lo := fun v : BitVec 16 => v.extractLsb' 0 8
    let byte := fun n : Nat => BitVec.ofNat 8 n
    let num := fun n : Nat => BitVec.ofNat 16 n
    let reads := fun (i : Instr) (code : Byte) (record : List Byte) =>
      ∃ t, exec i s = .next t ∧ SameStation s t ∧
        PortAfter s t (code :: bytes) ((List.range bytes.length).map fun k => record.getD k 0) ∧
        t.port.flags = s.port.flags ∧ t.port.marks = s.port.marks ∧ t.port.mask = s.port.mask ∧
        t.port.result = s.port.result ∧ t.port.rosterPtr = s.port.rosterPtr
    let membership := match s.member.state with
      | .unconfigured => 0
      | .detached => 1
      | .listen => 2
      | .joining => 3
      | .active => 4
      | .draining => 5
      | .faulted => 6
    let alignment := match s.align.state with
      | .free => 0
      | .pulling => 1
      | .locked => 2
    let result := match s.port.result with
      | .accepted => 0
      | .wrongState => 1
      | .faultActive => 2
      | .unconfigured => 3
    let cause := match s.loader.cause with
      | .power => 0
      | .pin => 1
      | .restart => 2
    let diag := match s.loader.diag.cause with
      | .none => 0
      | .noMemory => 1
      | .badCrc => 2
      | .badField => 3
    let origin := match s.mon.latch with
      | none => 0
      | some .flta => 0
      | some .fltb => 1
      | some .escalate => 2
      | some .group => 3
    let bit := fun (b : Bool) (n : Nat) => if b then 2 ^ n else 0
    let place := s.plan.place.getD ⟨0, 0, 0⟩
    let pend := s.plan.pending.getD ⟨0, 0, 0, 0⟩
    statusByte s = byte (membership + 8 * alignment + bit s.mon.latch.isSome 5 + 64 * result) ∧
    reads (.statusRead (whole (0x01#8 :: bytes))) 0x01#8
      ([byte (cause + 4 * diag + 16 * s.loader.diag.attempts), byte (s.loader.diag.index.getD 0),
        byte (bit s.plan.epoch.isSome 0 + bit s.plan.set.isSome 1 + bit s.plan.place.isSome 2 +
          bit s.plan.pending.isSome 3),
        s.plan.epoch.getD 0, hi (s.plan.set.getD 0), lo (s.plan.set.getD 0), byte place.rank, byte place.size,
        hi (num place.target), lo (num place.target)] ++
       [pend.epoch, byte pend.issuer.val, hi pend.members, lo pend.members, pend.effSeq] ++
       [hi (num s.gen.phi), lo (num s.gen.phi), hi (num s.gen.held), lo (num s.gen.held),
        hi (num s.gen.staged.toNat), lo (num s.gen.staged.toNat), hi (num s.gen.otaEff), lo (num s.gen.otaEff),
        hi (num s.gen.ceiling), lo (num s.gen.ceiling)] ++
       [byte (bit s.mon.a.asserted 0 + bit s.mon.b.asserted 1 + bit s.mon.cutForce 2 + bit s.mon.a.holdForce 3 +
          bit s.mon.b.holdForce 4 + bit s.mon.latchForce 5 + bit s.mon.latch.isSome 6),
        byte origin, byte (s.mon.history.filter fun e => e.flta || e.fltb).length]) ∧
    reads (.alignRead (whole (0x02#8 :: bytes))) 0x02#8
      [hi (BitVec.ofInt 16 s.align.mean), lo (BitVec.ofInt 16 s.align.mean),
       hi (BitVec.ofInt 16 s.timer.corr), lo (BitVec.ofInt 16 s.timer.corr),
       BitVec.ofInt 8 s.timer.trim, hi (BitVec.ofInt 16 s.timer.acc), lo (BitVec.ofInt 16 s.timer.acc),
       byte s.align.lockStreak]

/-- COUNTERS READ shifts out the eleven counters in the order FRAMESTX, FRAMESRX, RXERR, YIELDS, TXDROP, OUTLIER,
PLANSISSUED, PLANCONFLICT, LATEPLAN, CUTCYCLES, LATCHES, high byte first; with the code 83h each counter whose first
byte has begun is cleared, and nothing else of the station changes (R193). A whole transaction as one command is the
model's (log 8). -/
def Obligations.CountersReadCopiesAndClears : Prop :=
  ∀ (s : State) (bytes : List Byte), PortReady s →
    let counters := fun u : State =>
      [u.link.framesTx, u.link.framesRx, u.link.rxErr, u.link.yields, u.link.txDrop, u.align.outliers, u.plan.issued,
        u.plan.conflict, u.plan.late, u.mon.cutCycles, u.mon.latches]
    let record := (counters s).flatMap fun v => [v.extractLsb' 8 8, v.extractLsb' 0 8]
    let response := (List.range bytes.length).map fun k => record.getD k 0
    (∃ t, exec (.countersRead (whole (0x03#8 :: bytes))) s = .next t ∧ SameStation s t ∧
      PortAfter s t (0x03#8 :: bytes) response ∧
      t.port.flags = s.port.flags ∧ t.port.result = s.port.result) ∧
    (∃ t, exec (.countersReadWithClear (whole (0x83#8 :: bytes))) s = .next t ∧
      PortAfter s t (0x83#8 :: bytes) response ∧
      (∀ i, i < 11 → (counters t).getD i 0 = if 2 * i < bytes.length then 0 else (counters s).getD i 0) ∧
      t.port.flags = s.port.flags ∧ t.port.result = s.port.result ∧
      t = { s with
        link := { s.link with
          framesTx := t.link.framesTx
          framesRx := t.link.framesRx
          rxErr := t.link.rxErr
          yields := t.link.yields
          txDrop := t.link.txDrop }
        align := { s.align with outliers := t.align.outliers }
        plan := { s.plan with issued := t.plan.issued, conflict := t.plan.conflict, late := t.plan.late }
        mon := { s.mon with cutCycles := t.mon.cutCycles, latches := t.mon.latches }
        port := t.port })

/-- ROSTER READ takes the start number from byte 1, during which it shifts out 00h, and then shifts out record after
record from that entry on, wrapping from 15 to 0; a transaction that ends before byte 1 is complete leaves the pointer
(R194). The 8 bytes of a record are spelled out (R199). An entry is never read with its new silence and its old presence
(R54, R60); that one whose silence limit is due is read as the limit leaves it is the model's choice (log 4). A whole
transaction as one command is the model's (log 8). -/
def Obligations.RosterReadShiftsOutEntries : Prop :=
  ∀ s : State, PortReady s →
    let entry := fun j : Station => match s.loader.config with
      | none => s.roster[j]
      | some c => if silenceDue c s j then
          (if inCurrent s j then { s.roster[j] with presence := .silent } else Entry.cleared)
        else s.roster[j]
    let byte := fun n : Nat => BitVec.ofNat 8 n
    let bit := fun (b : Bool) (n : Nat) => if b then 2 ^ n else 0
    let presence := fun e : Entry => match e.presence with
      | .absent => 0
      | .heard => 1
      | .member => 2
      | .silent => 3
      | .departed => 4
      | .excluded => 5
    let reported := fun e : Entry => match e.reported with
      | some .joining => 0
      | some .active => 1
      | some .draining => 2
      | none => 3
    let origin := fun e : Entry => match e.faultOrigin with
      | none => 0
      | some .flta => 0
      | some .fltb => 1
      | some .escalate => 2
      | some .group => 3
    let deviation := fun e : Entry => BitVec.ofInt 16 (e.deviation.getD 0)
    let record := fun e : Entry =>
      [byte (presence e + 8 * reported e + bit e.lock 5 + bit e.deviation.isSome 6 + bit e.faultOrigin.isSome 7),
       e.lastSeq, (deviation e).extractLsb' 8 8, (deviation e).extractLsb' 0 8, byte e.silence, e.epoch,
       e.pendEpoch.getD 0, byte (bit e.pendEpoch.isSome 7 + origin e)]
    (∀ bits : List Bool, bits.length < 16 → agrees (byteBits [0x04#8]) bits = true →
      ∃ t, exec (.rosterRead ⟨true, bits, false, true⟩) s = .next t ∧ SameStation s t ∧
        t.port.rosterPtr = s.port.rosterPtr ∧ t.port.txn = .closed) ∧
    (∀ (b : Byte) (rest : List Byte),
      let start : Station := Fin.ofNat 16 b.toNat
      ∃ t, exec (.rosterRead (whole (0x04#8 :: b :: rest))) s = .next t ∧ SameStation s t ∧
        PortAfter s t (0x04#8 :: b :: rest) (0 :: (List.range rest.length).map fun k =>
          (record (entry (start + Fin.ofNat 16 (k / 8)))).getD (k % 8) 0) ∧
        t.port.rosterPtr = start + Fin.ofNat 16 ((rest.length + 7) / 8) ∧
        t.port.flags = s.port.flags ∧ t.port.result = s.port.result)

/-- EVENTS READ-AND-CLEAR: the flags are shifted out as they stand at byte 1, their marks are set from them, and the
clear at the end takes the flags of the mask whose mark is still set, so that a flag raised since the snapshot stays;
with byte 2 incomplete no flag is cleared (R197). A transaction as one command or in pieces is the model's (log 8). -/
def Obligations.EventsReadAndClearKeepsLaterRaises : Prop :=
  ∀ s : State,
    (PortReady s → ∀ (b1 b2 : Byte) (rest : List Byte),
      ∃ t, exec (.eventsReadAndClear (whole (0x05#8 :: b1 :: b2 :: rest))) s = .next t ∧ SameStation s t ∧
        PortAfter s t (0x05#8 :: b1 :: b2 :: rest)
          (s.port.flags.extractLsb' 8 8 :: s.port.flags.extractLsb' 0 8 :: List.replicate rest.length 0) ∧
        t.port.flags = s.port.flags &&& ~~~(b1 ++ b2) ∧ t.port.marks = s.port.flags ∧
        t.port.result = s.port.result) ∧
    (PortReady s → ∀ bits : List Bool, bits.length < 24 → agrees (byteBits [0x05#8]) bits = true →
      ∃ t, exec (.eventsReadAndClear ⟨true, bits, false, true⟩) s = .next t ∧ SameStation s t ∧
        t.port.flags = s.port.flags) ∧
    (∀ (k : Nat) (b1 b2 : Byte) (rest : List Byte), s.port.txn = .opened k →
      s.port.request = some 0x05#8 → s.port.sdi = byteBits (0x05#8 :: b1 :: b2 :: rest) →
      exec (.eventsReadAndClear ⟨false, [], false, true⟩) s = .next { s with port := { s.port with
        txn := .closed
        request := none
        flags := s.port.flags &&& ~~~((b1 ++ b2) &&& s.port.marks) } }) ∧
    (∀ e : Event, (raise e s).port.flags.getLsbD (eventNumber e) = true ∧
      (raise e s).port.marks.getLsbD (eventNumber e) = false)

/-- DEMAND WRITE replaces the staged demand with the low twelve bits of its two data bytes, in every state the port
answers in; a transaction that ends with fewer than two complete data bytes changes nothing; the last command result
stays (R189). A whole transaction as one command is the model's (log 8). -/
def Obligations.DemandWriteStagesTwelveBits : Prop :=
  ∀ s : State, PortReady s →
    (∀ (b1 b2 : Byte) (rest : List Byte),
      ∃ t, exec (.demandWrite (whole (0x11#8 :: b1 :: b2 :: rest))) s = .next t ∧
        t.gen.staged.toNat = (256 * b1.toNat + b2.toNat) % 4096 ∧
        t.port.result = s.port.result ∧ t.port.flags = s.port.flags ∧
        PortAfter s t (0x11#8 :: b1 :: b2 :: rest) (List.replicate (rest.length + 2) 0) ∧
        t = { s with gen := { s.gen with staged := t.gen.staged }, port := t.port }) ∧
    (∀ bits : List Bool, bits.length < 24 → agrees (byteBits [0x11#8]) bits = true →
      ∃ t, exec (.demandWrite ⟨true, bits, false, true⟩) s = .next t ∧ SameStation s t ∧
        t.port.result = s.port.result ∧ t.port.flags = s.port.flags)

/-- ALERT MASK WRITE replaces the mask with its two data bytes, and with fewer complete it changes nothing. A code of no
request, or a COMMAND byte of no command, shifts out 00h and changes nothing at all (R190, R185, R195). A whole
transaction as one command is the model's (log 8). -/
def Obligations.MaskWriteAndUndefinedRequests : Prop :=
  ∀ s : State, PortReady s →
    (∀ (b1 b2 : Byte) (rest : List Byte),
      ∃ t, exec (.alertMaskWrite (whole (0x12#8 :: b1 :: b2 :: rest))) s = .next t ∧ SameStation s t ∧
        PortAfter s t (0x12#8 :: b1 :: b2 :: rest) (List.replicate (rest.length + 2) 0) ∧
        t.port.mask.toNat = 256 * b1.toNat + b2.toNat ∧
        t.port.flags = s.port.flags ∧ t.port.marks = s.port.marks ∧ t.port.result = s.port.result) ∧
    (∀ bits : List Bool, bits.length < 24 → agrees (byteBits [0x12#8]) bits = true →
      ∃ t, exec (.alertMaskWrite ⟨true, bits, false, true⟩) s = .next t ∧ SameStation s t ∧
        t.port.mask = s.port.mask ∧ t.port.flags = s.port.flags ∧ t.port.result = s.port.result) ∧
    (∀ (code : Byte) (bytes : List Byte), WellFormed.undefinedRequest code (whole (code :: bytes)) = true →
      ∃ t, exec (.undefinedRequest code (whole (code :: bytes))) s = .next t ∧ SameStation s t ∧
        PortAfter s t (code :: bytes) (List.replicate bytes.length 0) ∧
        t.port.flags = s.port.flags ∧ t.port.marks = s.port.marks ∧ t.port.mask = s.port.mask ∧
        t.port.result = s.port.result ∧ t.port.rosterPtr = s.port.rosterPtr)

/-- A transaction given in two pieces, cut at any edge of CP_SCK, does what the whole one does when no time passes
between them. A COMMAND acts at the rise of CP_CS# only: a piece that leaves the transaction open changes nothing but
the port's own transaction, whatever bits it brings; and one cut before its command byte is complete acts on nothing
(R185, R195; the pieces are the model's, log 8). -/
def Obligations.TransactionInPiecesIsTheWholeOne : Prop :=
  (∀ (s t : State) (f : Xfer → Instr) (header : List Byte) (d1 d2 : List Bool) (falls : Bool),
    (f, header) ∈ [(Instr.statusRead, [0x01#8]), (.alignRead, [0x02#8]), (.countersRead, [0x03#8]),
      (.countersReadWithClear, [0x83#8]), (.rosterRead, [0x04#8]), (.eventsReadAndClear, [0x05#8]),
      (.demandWrite, [0x11#8]), (.alertMaskWrite, [0x12#8]), (.join, [0x21#8, 0x01#8]), (.leave, [0x21#8, 0x02#8]),
      (.clearFault, [0x21#8, 0x03#8]), (.restart, [0x21#8, 0x04#8])] ∨
      (∃ code, f = .undefinedRequest code ∧ header = [code]) →
    agrees (byteBits header) (d1 ++ d2) = true → falls = false ∨ d2 ≠ [] →
    exec (f ⟨true, d1, falls, false⟩) s = .next t →
    exec (f ⟨false, d2, false, true⟩) t = exec (f ⟨true, d1 ++ d2, false, true⟩) s) ∧
  (∀ (s : State) (f : Xfer → Instr) (bits : List Bool), PortReady s →
    f = .join ∨ f = .leave ∨ f = .clearFault ∨ f = .restart → bits.length < 16 →
    ∃ t, exec (f ⟨true, bits, false, true⟩) s = .next t ∧ SameStation s t ∧ t.port.result = s.port.result ∧
      t.port.flags = s.port.flags ∧ t.port.txn = .closed) ∧
  (∀ (s : State) (f : Xfer → Instr) (bits : List Bool) (falls : Bool), PortReady s →
    f = .join ∨ f = .leave ∨ f = .clearFault ∨ f = .restart →
    ∃ t, exec (f ⟨true, bits, falls, false⟩) s = .next t ∧ SameStation s t ∧ t.port.result = s.port.result ∧
      t.port.flags = s.port.flags ∧ t.port.marks = s.port.marks ∧ t.port.mask = s.port.mask)

/-- JOIN is taken in DETACHED, by the alignment state into LISTEN or JOINING with the clash hold cleared, JOINING with
no beacon point until the next boundary, and refused elsewhere with the result of R195 (R89, R37). LEAVE in ACTIVE
leaves at once as sole member, with LEFT, and otherwise drains with a LEAVE(REQUESTED) queued; in LISTEN and JOINING it
returns to DETACHED; elsewhere it is refused with WRONG_STATE (R95, R97). A refused command changes the last command
result alone. A whole transaction as one command is the model's (log 8). -/
def Obligations.JoinAndLeaveCommandsFollowTheState : Prop :=
  ∀ (c : Image) (s : State), PortReady s →
    let answers := fun (i : Instr) (code : Byte) (result : CmdResult) (P : State → Prop) =>
      ∃ t, exec i s = .next t ∧ PortAfter s t [0x21#8, code] [0x00#8] ∧ t.port.result = result ∧
        t.port.mask = s.port.mask ∧
        t.port.rosterPtr = s.port.rosterPtr ∧ P t
    let refused := fun t : State => SameStation s t ∧ t.port.flags = s.port.flags ∧ t.port.marks = s.port.marks
    let keeps := fun t : State => t.timer = s.timer ∧ t.roster = s.roster ∧ t.align = s.align ∧ t.mon = s.mon ∧
      t.loader = s.loader ∧ t.plan.epoch = s.plan.epoch ∧ t.plan.set = s.plan.set ∧ t.plan.place = s.plan.place ∧
      t.plan.pending = s.plan.pending ∧ t.gen.phi = s.gen.phi ∧ t.gen.dueSeq = s.gen.dueSeq ∧
      t.gen.kind = s.gen.kind ∧ t.gen.interval = s.gen.interval ∧ t.link.qFault = s.link.qFault ∧
      t.pending = s.pending
    let detached := fun t : State => t.member = ⟨.detached, none, none, none, 0, s.member.clashHold⟩ ∧
      t.link.qBeacon = none ∧ t.link.qPlan = none ∧ t.link.qLeave = s.link.qLeave ∧ keeps t
    let sole := s.plan.set = some (1#16 <<< c.station.val) ∧
      ∀ r, s.plan.pending = some r → ∀ j : Station, j ≠ c.station → inSet r.members j = false
    (s.member.state = .detached → s.align.state = .free →
      answers (.join (whole [0x21#8, 0x01#8])) 0x01#8 .accepted fun t => t.member = ⟨.listen, some 0, none, none, 0, false⟩ ∧ keeps t ∧
        t.port.flags = s.port.flags) ∧
    (s.member.state = .detached → s.align.state ≠ .free →
      answers (.join (whole [0x21#8, 0x01#8])) 0x01#8 .accepted fun t => t.member = ⟨.joining, none, some 0, none, 0, false⟩ ∧ keeps t ∧
        t.link = { s.link with beaconPoint := none } ∧ t.port.flags = s.port.flags) ∧
    (s.member.state = .unconfigured →
      answers (.join (whole [0x21#8, 0x01#8])) 0x01#8 .unconfigured refused) ∧
    (s.member.state ≠ .detached → s.member.state ≠ .unconfigured →
      answers (.join (whole [0x21#8, 0x01#8])) 0x01#8 .wrongState refused) ∧
    (Configured c s → s.member.state = .active → sole →
      answers (.leave (whole [0x21#8, 0x02#8])) 0x02#8 .accepted fun t => detached t ∧ t.port.flags = s.port.flags ||| 0x0004#16) ∧
    (Configured c s → s.member.state = .active → ¬sole →
      answers (.leave (whole [0x21#8, 0x02#8])) 0x02#8 .accepted fun t =>
        t.member = ⟨.draining, none, none, some 0, 0, s.member.clashHold⟩ ∧
        t.link.qLeave = some ⟨.requested, 0⟩ ∧ t.link.qBeacon = s.link.qBeacon ∧ t.link.qPlan = s.link.qPlan ∧
        keeps t ∧ t.port.flags = s.port.flags) ∧
    (s.member.state = .listen ∨ s.member.state = .joining →
      answers (.leave (whole [0x21#8, 0x02#8])) 0x02#8 .accepted fun t => detached t ∧ t.port.flags = s.port.flags) ∧
    (s.member.state = .unconfigured ∨ s.member.state = .detached ∨ s.member.state = .draining ∨
        s.member.state = .faulted →
      answers (.leave (whole [0x21#8, 0x02#8])) 0x02#8 .wrongState refused)

/-- CLEAR FAULT is accepted in FAULTED with both lines RELEASED: the latch force, the latch record and the history
clear, and the station goes to DETACHED or, with AUTOJOIN and no clash hold, along the JOIN path; it is refused with
FAULT_ACTIVE while a line is ASSERTED and with WRONG_STATE elsewhere (R171, R104). RESTART is taken in every state:
the reset, with the cause RESTART, and a new load in its first attempt (R181, R182, R195). That the reset keeps the
levels of the fault lines and drops the bits of peers on PB is the model's (log 11, log 7), and so are a whole
transaction as one command (log 8) and the history kept for the instant of a latch (log 28). -/
def Obligations.ClearFaultAndRestartCommands : Prop :=
  ∀ s : State, PortReady s →
    let answers := fun (result : CmdResult) (P : State → Prop) =>
      ∃ t, exec (.clearFault (whole [0x21#8, 0x03#8])) s = .next t ∧ PortAfter s t [0x21#8, 0x03#8] [0x00#8] ∧
        t.port.result = result ∧
        t.port.flags = s.port.flags ∧ t.port.marks = s.port.marks ∧ t.port.mask = s.port.mask ∧
        t.port.rosterPtr = s.port.rosterPtr ∧ P t
    (∀ c, Configured c s → s.member.state = .faulted → s.mon.a.asserted = false → s.mon.b.asserted = false →
      answers .accepted fun t =>
        t.mon = { s.mon with latchForce := false, latch := none, history := [], emptied := [] } ∧
        t.member = (if c.autoJoin && !s.member.clashHold then
          (if s.align.state = .free then ⟨.listen, some 0, none, none, 0, false⟩
            else ⟨.joining, none, some 0, none, 0, false⟩)
          else ⟨.detached, none, none, none, 0, s.member.clashHold⟩) ∧
        t = { s with member := t.member, link := t.link, mon := t.mon, port := t.port } ∧
        t.link.qBeacon = none ∧ t.link.qPlan = none ∧ t.link.qFault = s.link.qFault ∧
        t.link.qLeave = s.link.qLeave) ∧
    (s.member.state = .faulted → (s.mon.a.asserted = true ∨ s.mon.b.asserted = true) →
      answers .faultActive (SameStation s)) ∧
    (s.member.state ≠ .faulted → answers .wrongState (SameStation s)) ∧
    exec (.restart (whole [0x21#8, 0x04#8])) s = .next { State.reset with
      mon := Monitor.reset s.mon.a.pin s.mon.b.pin
      loader := ⟨.reading, 1, [], none, ⟨.none, none, 1⟩, .restart, 0, []⟩
      pending := s.pending }

/-! ### Invariants -/

/-- Every step keeps: an image is in force exactly in ACCEPTED, without one the station is UNCONFIGURED, and the latch
record is present exactly in FAULTED (R84, R166, R183, R186). -/
def Obligations.StepKeepsLatchExactlyInFaulted : Prop :=
  ∀ s t : State, LatchSound s → step s = .next t → LatchSound t

/-- Every step keeps the timer's ranges: T, A, the trim tick, the cycle length, and the counter below it, at its last
value once the tick that ends the cycle has come, which comes to no station without an image (R2, R3, R4, R6, R7, R84,
R183). That mark is the model's (log 3, log 13). -/
def Obligations.StepKeepsTimerRanges : Prop :=
  ∀ s t : State, TimerSound s → step s = .next t → TimerSound t

/-- Every step keeps: rank, size and target are those of the current set, and an ACTIVE or DRAINING station is in it
(R87, R115). -/
def Obligations.StepKeepsTheAllocation : Prop :=
  ∀ s t : State, GroupSound s → step s = .next t → GroupSound t

/-- Every step keeps the link sound: a frame in flight exactly in SENDING and followed by the receiver, DEFER and IDLE
by the queue, retry counts within 0..7, and a capture for every frame being received; and that a station without an
image is UNCONFIGURED (R23, R25, R28, R29, R31, R9, R84, R183). -/
def Obligations.StepKeepsTheTransmitter : Prop :=
  ∀ s t : State, TransmitSound s → step s = .next t → TransmitSound t

/-- Every step keeps: OTA_eff within the ceiling, at most 64 entries of history, none beside those that a latch of the
present instant emptied, which the model keeps for that instant (log 28), and MARK only in ACTIVE (R145, R164, R166,
R153). -/
def Obligations.StepKeepsTheGate : Prop :=
  ∀ s t : State, GateSound s → step s = .next t → GateSound t

/-- The invariants hold right after reset. -/
def Obligations.InvariantsHoldAtReset : Prop :=
  LatchSound State.reset ∧ TimerSound State.reset ∧ GroupSound State.reset ∧ TransmitSound State.reset ∧
    GateSound State.reset
end

