-- ==== Sys2Proof/Laws/State.lean ====
section
/-! SUPPORT. What each named update does to each field of State, true by rfl and used by simp, so that no proof unfolds
a record update. -/

namespace Sys2Proof.Machine

/-! ### raise -/

@[simp] theorem raise_timer (e : Event) (s : State) : (raise e s).timer = s.timer := rfl

@[simp] theorem raise_link (e : Event) (s : State) : (raise e s).link = s.link := rfl

@[simp] theorem raise_roster (e : Event) (s : State) : (raise e s).roster = s.roster := rfl

@[simp] theorem raise_align (e : Event) (s : State) : (raise e s).align = s.align := rfl

@[simp] theorem raise_member (e : Event) (s : State) : (raise e s).member = s.member := rfl

@[simp] theorem raise_plan (e : Event) (s : State) : (raise e s).plan = s.plan := rfl

@[simp] theorem raise_gen (e : Event) (s : State) : (raise e s).gen = s.gen := rfl

@[simp] theorem raise_mon (e : Event) (s : State) : (raise e s).mon = s.mon := rfl

@[simp] theorem raise_loader (e : Event) (s : State) : (raise e s).loader = s.loader := rfl

@[simp] theorem raise_port (e : Event) (s : State) : (raise e s).port = s.port.raise e := rfl

@[simp] theorem raise_line (e : Event) (s : State) : (raise e s).line = s.line := rfl

@[simp] theorem raise_pending (e : Event) (s : State) : (raise e s).pending = s.pending := rfl

/-! ### recordResult -/

@[simp] theorem recordResult_timer (r : CmdResult) (s : State) : (recordResult r s).timer = s.timer := rfl

@[simp] theorem recordResult_link (r : CmdResult) (s : State) : (recordResult r s).link = s.link := rfl

@[simp] theorem recordResult_roster (r : CmdResult) (s : State) : (recordResult r s).roster = s.roster := rfl

@[simp] theorem recordResult_align (r : CmdResult) (s : State) : (recordResult r s).align = s.align := rfl

@[simp] theorem recordResult_member (r : CmdResult) (s : State) : (recordResult r s).member = s.member := rfl

@[simp] theorem recordResult_plan (r : CmdResult) (s : State) : (recordResult r s).plan = s.plan := rfl

@[simp] theorem recordResult_gen (r : CmdResult) (s : State) : (recordResult r s).gen = s.gen := rfl

@[simp] theorem recordResult_mon (r : CmdResult) (s : State) : (recordResult r s).mon = s.mon := rfl

@[simp] theorem recordResult_loader (r : CmdResult) (s : State) : (recordResult r s).loader = s.loader := rfl

@[simp] theorem recordResult_port (r : CmdResult) (s : State) :
    (recordResult r s).port = { s.port with result := r } := rfl

@[simp] theorem recordResult_line (r : CmdResult) (s : State) :
    (recordResult r s).line = s.line := rfl

@[simp] theorem recordResult_pending (r : CmdResult) (s : State) : (recordResult r s).pending = s.pending := rfl

/-! ### moveTo -/

@[simp] theorem moveTo_timer (m : Membership) (s : State) : (moveTo m s).timer = s.timer := rfl

@[simp] theorem moveTo_link (m : Membership) (s : State) : (moveTo m s).link = s.link.enterState m := rfl

@[simp] theorem moveTo_roster (m : Membership) (s : State) : (moveTo m s).roster = s.roster := rfl

@[simp] theorem moveTo_align (m : Membership) (s : State) : (moveTo m s).align = s.align := rfl

@[simp] theorem moveTo_member (m : Membership) (s : State) : (moveTo m s).member = s.member.enter m := rfl

@[simp] theorem moveTo_plan (m : Membership) (s : State) :
    (moveTo m s).plan = if s.member.state = .active then s.plan.leaveActive else s.plan := rfl

@[simp] theorem moveTo_gen (m : Membership) (s : State) :
    (moveTo m s).gen = if s.member.state = .active then s.gen.leaveActive else s.gen := rfl

@[simp] theorem moveTo_mon (m : Membership) (s : State) : (moveTo m s).mon = s.mon := rfl

@[simp] theorem moveTo_loader (m : Membership) (s : State) : (moveTo m s).loader = s.loader := rfl

@[simp] theorem moveTo_port (m : Membership) (s : State) : (moveTo m s).port = s.port := rfl

@[simp] theorem moveTo_line (m : Membership) (s : State) : (moveTo m s).line = s.line := rfl

@[simp] theorem moveTo_pending (m : Membership) (s : State) : (moveTo m s).pending = s.pending := rfl

/-! ### updateEntry -/

@[simp] theorem updateEntry_timer (j : Station) (f : Entry → Entry) (s : State) :
    (updateEntry j f s).timer = s.timer := rfl

@[simp] theorem updateEntry_link (j : Station) (f : Entry → Entry) (s : State) :
    (updateEntry j f s).link = s.link := rfl

@[simp] theorem updateEntry_roster (j : Station) (f : Entry → Entry) (s : State) :
    (updateEntry j f s).roster = putAt s.roster j (f s.roster[j]) := rfl

@[simp] theorem updateEntry_align (j : Station) (f : Entry → Entry) (s : State) :
    (updateEntry j f s).align = s.align := rfl

@[simp] theorem updateEntry_member (j : Station) (f : Entry → Entry) (s : State) :
    (updateEntry j f s).member = s.member := rfl

@[simp] theorem updateEntry_plan (j : Station) (f : Entry → Entry) (s : State) :
    (updateEntry j f s).plan = s.plan := rfl

@[simp] theorem updateEntry_gen (j : Station) (f : Entry → Entry) (s : State) : (updateEntry j f s).gen = s.gen := rfl

@[simp] theorem updateEntry_mon (j : Station) (f : Entry → Entry) (s : State) : (updateEntry j f s).mon = s.mon := rfl

@[simp] theorem updateEntry_loader (j : Station) (f : Entry → Entry) (s : State) :
    (updateEntry j f s).loader = s.loader := rfl

@[simp] theorem updateEntry_port (j : Station) (f : Entry → Entry) (s : State) :
    (updateEntry j f s).port = s.port := rfl

@[simp] theorem updateEntry_line (j : Station) (f : Entry → Entry) (s : State) :
    (updateEntry j f s).line = s.line := rfl

@[simp] theorem updateEntry_pending (j : Station) (f : Entry → Entry) (s : State) :
    (updateEntry j f s).pending = s.pending := rfl

/-! ### takeSilences -/

@[simp] theorem takeSilences_timer (c : Image) (s : State) : (takeSilences c s).timer = s.timer := rfl

@[simp] theorem takeSilences_link (c : Image) (s : State) : (takeSilences c s).link = s.link := rfl

@[simp] theorem takeSilences_roster (c : Image) (s : State) :
    (takeSilences c s).roster = mapPeers c.station (fun j e => e.testSilence c (inCurrent s j)) s.roster := rfl

@[simp] theorem takeSilences_align (c : Image) (s : State) : (takeSilences c s).align = s.align := rfl

@[simp] theorem takeSilences_member (c : Image) (s : State) : (takeSilences c s).member = s.member := rfl

@[simp] theorem takeSilences_plan (c : Image) (s : State) : (takeSilences c s).plan = s.plan := rfl

@[simp] theorem takeSilences_gen (c : Image) (s : State) : (takeSilences c s).gen = s.gen := rfl

@[simp] theorem takeSilences_mon (c : Image) (s : State) : (takeSilences c s).mon = s.mon := rfl

@[simp] theorem takeSilences_loader (c : Image) (s : State) : (takeSilences c s).loader = s.loader := rfl

@[simp] theorem takeSilences_port (c : Image) (s : State) : (takeSilences c s).port = s.port := rfl

@[simp] theorem takeSilences_line (c : Image) (s : State) :
    (takeSilences c s).line = s.line := rfl

@[simp] theorem takeSilences_pending (c : Image) (s : State) : (takeSilences c s).pending = s.pending := rfl

/-! ### applyRoster -/

@[simp] theorem applyRoster_timer (c : Image) (m : StationSet) (s : State) :
    (applyRoster c m s).timer = s.timer := rfl

@[simp] theorem applyRoster_link (c : Image) (m : StationSet) (s : State) : (applyRoster c m s).link = s.link := rfl

@[simp] theorem applyRoster_roster (c : Image) (m : StationSet) (s : State) :
    (applyRoster c m s).roster = mapPeers c.station (fun j e => e.onApply (inSet m j)) s.roster := rfl

@[simp] theorem applyRoster_align (c : Image) (m : StationSet) (s : State) :
    (applyRoster c m s).align = s.align := rfl

@[simp] theorem applyRoster_member (c : Image) (m : StationSet) (s : State) :
    (applyRoster c m s).member = s.member := rfl

@[simp] theorem applyRoster_plan (c : Image) (m : StationSet) (s : State) : (applyRoster c m s).plan = s.plan := rfl

@[simp] theorem applyRoster_gen (c : Image) (m : StationSet) (s : State) : (applyRoster c m s).gen = s.gen := rfl

@[simp] theorem applyRoster_mon (c : Image) (m : StationSet) (s : State) : (applyRoster c m s).mon = s.mon := rfl

@[simp] theorem applyRoster_loader (c : Image) (m : StationSet) (s : State) :
    (applyRoster c m s).loader = s.loader := rfl

@[simp] theorem applyRoster_port (c : Image) (m : StationSet) (s : State) : (applyRoster c m s).port = s.port := rfl

@[simp] theorem applyRoster_line (c : Image) (m : StationSet) (s : State) :
    (applyRoster c m s).line = s.line := rfl

@[simp] theorem applyRoster_pending (c : Image) (m : StationSet) (s : State) :
    (applyRoster c m s).pending = s.pending := rfl

/-! ### issue -/

@[simp] theorem issue_timer (r : PlanRecord) (s : State) : (issue r s).timer = s.timer := rfl

@[simp] theorem issue_link (r : PlanRecord) (s : State) : (issue r s).link = s.link.requestPlan r := rfl

@[simp] theorem issue_roster (r : PlanRecord) (s : State) : (issue r s).roster = s.roster := rfl

@[simp] theorem issue_align (r : PlanRecord) (s : State) : (issue r s).align = s.align := rfl

@[simp] theorem issue_member (r : PlanRecord) (s : State) : (issue r s).member = s.member := rfl

@[simp] theorem issue_gen (r : PlanRecord) (s : State) : (issue r s).gen = s.gen := rfl

@[simp] theorem issue_mon (r : PlanRecord) (s : State) : (issue r s).mon = s.mon := rfl

@[simp] theorem issue_loader (r : PlanRecord) (s : State) : (issue r s).loader = s.loader := rfl

@[simp] theorem issue_port (r : PlanRecord) (s : State) : (issue r s).port = s.port := rfl

@[simp] theorem issue_line (r : PlanRecord) (s : State) : (issue r s).line = s.line := rfl

@[simp] theorem issue_pending (r : PlanRecord) (s : State) : (issue r s).pending = s.pending := rfl

/-! ### coarseStep -/

@[simp] theorem coarseStep_timer (c : Image) (b : BeaconBody) (s : State) :
    (coarseStep c b s).timer = s.timer.coarse c b := rfl

@[simp] theorem coarseStep_link (c : Image) (b : BeaconBody) (s : State) : (coarseStep c b s).link = s.link := rfl

@[simp] theorem coarseStep_align (c : Image) (b : BeaconBody) (s : State) : (coarseStep c b s).align = s.align := rfl

@[simp] theorem coarseStep_member (c : Image) (b : BeaconBody) (s : State) :
    (coarseStep c b s).member = s.member := rfl

@[simp] theorem coarseStep_plan (c : Image) (b : BeaconBody) (s : State) : (coarseStep c b s).plan = s.plan := rfl

@[simp] theorem coarseStep_gen (c : Image) (b : BeaconBody) (s : State) :
    (coarseStep c b s).gen = s.gen.stepped (s.timer.coarse c b).seq (s.timer.coarse c b).counter := rfl

@[simp] theorem coarseStep_mon (c : Image) (b : BeaconBody) (s : State) : (coarseStep c b s).mon = s.mon := rfl

@[simp] theorem coarseStep_loader (c : Image) (b : BeaconBody) (s : State) :
    (coarseStep c b s).loader = s.loader := rfl

@[simp] theorem coarseStep_port (c : Image) (b : BeaconBody) (s : State) : (coarseStep c b s).port = s.port := rfl

@[simp] theorem coarseStep_line (c : Image) (b : BeaconBody) (s : State) :
    (coarseStep c b s).line = s.line := rfl

@[simp] theorem coarseStep_pending (c : Image) (b : BeaconBody) (s : State) :
    (coarseStep c b s).pending = s.pending := rfl

/-! ### handCorrection -/

@[simp] theorem handCorrection_timer (x : Int) (s : State) :
    (handCorrection x s).timer = { s.timer with corr := x } := rfl

@[simp] theorem handCorrection_link (x : Int) (s : State) : (handCorrection x s).link = s.link := rfl

@[simp] theorem handCorrection_roster (x : Int) (s : State) : (handCorrection x s).roster = s.roster := rfl

@[simp] theorem handCorrection_align (x : Int) (s : State) : (handCorrection x s).align = s.align := rfl

@[simp] theorem handCorrection_member (x : Int) (s : State) : (handCorrection x s).member = s.member := rfl

@[simp] theorem handCorrection_plan (x : Int) (s : State) : (handCorrection x s).plan = s.plan := rfl

@[simp] theorem handCorrection_gen (x : Int) (s : State) : (handCorrection x s).gen = s.gen := rfl

@[simp] theorem handCorrection_mon (x : Int) (s : State) : (handCorrection x s).mon = s.mon := rfl

@[simp] theorem handCorrection_loader (x : Int) (s : State) : (handCorrection x s).loader = s.loader := rfl

@[simp] theorem handCorrection_port (x : Int) (s : State) : (handCorrection x s).port = s.port := rfl

@[simp] theorem handCorrection_line (x : Int) (s : State) :
    (handCorrection x s).line = s.line := rfl

@[simp] theorem handCorrection_pending (x : Int) (s : State) : (handCorrection x s).pending = s.pending := rfl

/-! ### turn -/

@[simp] theorem turn_timer (c : Image) (s : State) : (turn c s).timer = s.timer.turn := rfl

@[simp] theorem turn_link (c : Image) (s : State) : (turn c s).link = s.link := rfl

@[simp] theorem turn_roster (c : Image) (s : State) :
    (turn c s).roster = mapPeers c.station (fun _ e => e.age) s.roster := rfl

@[simp] theorem turn_align (c : Image) (s : State) : (turn c s).align = s.align := rfl

@[simp] theorem turn_member (c : Image) (s : State) : (turn c s).member = s.member.countWindows := rfl

@[simp] theorem turn_plan (c : Image) (s : State) : (turn c s).plan = s.plan := rfl

@[simp] theorem turn_gen (c : Image) (s : State) : (turn c s).gen = s.gen := rfl

@[simp] theorem turn_mon (c : Image) (s : State) : (turn c s).mon = s.mon := rfl

@[simp] theorem turn_loader (c : Image) (s : State) : (turn c s).loader = s.loader := rfl

@[simp] theorem turn_port (c : Image) (s : State) : (turn c s).port = s.port := rfl

@[simp] theorem turn_line (c : Image) (s : State) : (turn c s).line = s.line := rfl

@[simp] theorem turn_pending (c : Image) (s : State) : (turn c s).pending = s.pending := rfl

/-! ### fixLength -/

@[simp] theorem fixLength_timer (c : Image) (s : State) :
    (fixLength c s).timer = s.timer.limit c s.member.state := rfl

@[simp] theorem fixLength_link (c : Image) (s : State) : (fixLength c s).link = s.link := rfl

@[simp] theorem fixLength_roster (c : Image) (s : State) : (fixLength c s).roster = s.roster := rfl

@[simp] theorem fixLength_align (c : Image) (s : State) : (fixLength c s).align = s.align := rfl

@[simp] theorem fixLength_member (c : Image) (s : State) : (fixLength c s).member = s.member := rfl

@[simp] theorem fixLength_plan (c : Image) (s : State) : (fixLength c s).plan = s.plan := rfl

@[simp] theorem fixLength_gen (c : Image) (s : State) : (fixLength c s).gen = s.gen := rfl

@[simp] theorem fixLength_mon (c : Image) (s : State) : (fixLength c s).mon = s.mon := rfl

@[simp] theorem fixLength_loader (c : Image) (s : State) : (fixLength c s).loader = s.loader := rfl

@[simp] theorem fixLength_port (c : Image) (s : State) : (fixLength c s).port = s.port := rfl

@[simp] theorem fixLength_line (c : Image) (s : State) : (fixLength c s).line = s.line := rfl

@[simp] theorem fixLength_pending (c : Image) (s : State) : (fixLength c s).pending = s.pending := rfl

/-! ### fixBeaconPoint -/

@[simp] theorem fixBeaconPoint_timer (c : Image) (s : State) : (fixBeaconPoint c s).timer = s.timer := rfl

@[simp] theorem fixBeaconPoint_roster (c : Image) (s : State) : (fixBeaconPoint c s).roster = s.roster := rfl

@[simp] theorem fixBeaconPoint_align (c : Image) (s : State) : (fixBeaconPoint c s).align = s.align := rfl

@[simp] theorem fixBeaconPoint_member (c : Image) (s : State) : (fixBeaconPoint c s).member = s.member := rfl

@[simp] theorem fixBeaconPoint_plan (c : Image) (s : State) : (fixBeaconPoint c s).plan = s.plan := rfl

@[simp] theorem fixBeaconPoint_gen (c : Image) (s : State) : (fixBeaconPoint c s).gen = s.gen := rfl

@[simp] theorem fixBeaconPoint_mon (c : Image) (s : State) : (fixBeaconPoint c s).mon = s.mon := rfl

@[simp] theorem fixBeaconPoint_loader (c : Image) (s : State) : (fixBeaconPoint c s).loader = s.loader := rfl

@[simp] theorem fixBeaconPoint_port (c : Image) (s : State) : (fixBeaconPoint c s).port = s.port := rfl

@[simp] theorem fixBeaconPoint_line (c : Image) (s : State) :
    (fixBeaconPoint c s).line = s.line := rfl

@[simp] theorem fixBeaconPoint_pending (c : Image) (s : State) : (fixBeaconPoint c s).pending = s.pending := rfl

/-! ### clearRelay -/

@[simp] theorem clearRelay_timer (s : State) : (clearRelay s).timer = s.timer := rfl

@[simp] theorem clearRelay_link (s : State) : (clearRelay s).link = s.link := rfl

@[simp] theorem clearRelay_roster (s : State) : (clearRelay s).roster = s.roster := rfl

@[simp] theorem clearRelay_align (s : State) : (clearRelay s).align = s.align := rfl

@[simp] theorem clearRelay_member (s : State) : (clearRelay s).member = s.member := rfl

@[simp] theorem clearRelay_plan (s : State) : (clearRelay s).plan = { s.plan with relay := false } := rfl

@[simp] theorem clearRelay_gen (s : State) : (clearRelay s).gen = s.gen := rfl

@[simp] theorem clearRelay_mon (s : State) : (clearRelay s).mon = s.mon := rfl

@[simp] theorem clearRelay_loader (s : State) : (clearRelay s).loader = s.loader := rfl

@[simp] theorem clearRelay_port (s : State) : (clearRelay s).port = s.port := rfl

@[simp] theorem clearRelay_line (s : State) : (clearRelay s).line = s.line := rfl

@[simp] theorem clearRelay_pending (s : State) : (clearRelay s).pending = s.pending := rfl

/-! ### resetBy -/

@[simp] theorem resetBy_timer (r : ResetCause) (x : Txn) (s : State) : (resetBy r x s).timer = Timer.reset := rfl

@[simp] theorem resetBy_link (r : ResetCause) (x : Txn) (s : State) : (resetBy r x s).link = Link.reset := rfl

@[simp] theorem resetBy_roster (r : ResetCause) (x : Txn) (s : State) : (resetBy r x s).roster = rosterReset := rfl

@[simp] theorem resetBy_align (r : ResetCause) (x : Txn) (s : State) : (resetBy r x s).align = Align.reset := rfl

@[simp] theorem resetBy_member (r : ResetCause) (x : Txn) (s : State) : (resetBy r x s).member = Member.reset := rfl

@[simp] theorem resetBy_plan (r : ResetCause) (x : Txn) (s : State) : (resetBy r x s).plan = PlanCtl.reset := rfl

@[simp] theorem resetBy_gen (r : ResetCause) (x : Txn) (s : State) : (resetBy r x s).gen = Gen.reset := rfl

@[simp] theorem resetBy_mon (r : ResetCause) (x : Txn) (s : State) :
    (resetBy r x s).mon = Monitor.reset s.mon.a.pin s.mon.b.pin := rfl

@[simp] theorem resetBy_loader (r : ResetCause) (x : Txn) (s : State) : (resetBy r x s).loader = Loader.reset r := rfl

@[simp] theorem resetBy_port (r : ResetCause) (x : Txn) (s : State) : (resetBy r x s).port = Port.reset x := rfl

@[simp] theorem resetBy_line (r : ResetCause) (x : Txn) (s : State) :
    (resetBy r x s).line = [] := rfl

@[simp] theorem resetBy_pending (r : ResetCause) (x : Txn) (s : State) : (resetBy r x s).pending = s.pending := rfl

/-! ### beginAttempt -/

@[simp] theorem beginAttempt_timer (s : State) : (beginAttempt s).timer = s.timer := rfl

@[simp] theorem beginAttempt_link (s : State) : (beginAttempt s).link = s.link := rfl

@[simp] theorem beginAttempt_roster (s : State) : (beginAttempt s).roster = s.roster := rfl

@[simp] theorem beginAttempt_align (s : State) : (beginAttempt s).align = s.align := rfl

@[simp] theorem beginAttempt_member (s : State) : (beginAttempt s).member = s.member := rfl

@[simp] theorem beginAttempt_plan (s : State) : (beginAttempt s).plan = s.plan := rfl

@[simp] theorem beginAttempt_gen (s : State) : (beginAttempt s).gen = s.gen := rfl

@[simp] theorem beginAttempt_mon (s : State) : (beginAttempt s).mon = s.mon := rfl

@[simp] theorem beginAttempt_loader (s : State) : (beginAttempt s).loader = s.loader.beginAttempt := rfl

@[simp] theorem beginAttempt_port (s : State) : (beginAttempt s).port = s.port := rfl

@[simp] theorem beginAttempt_line (s : State) : (beginAttempt s).line = s.line := rfl

@[simp] theorem beginAttempt_pending (s : State) : (beginAttempt s).pending = s.pending := rfl

/-! ### othersSend -/

@[simp] theorem othersSend_timer (levels : List Bool) (s : State) : (othersSend levels s).timer = s.timer := rfl

@[simp] theorem othersSend_link (levels : List Bool) (s : State) : (othersSend levels s).link = s.link := rfl

@[simp] theorem othersSend_roster (levels : List Bool) (s : State) : (othersSend levels s).roster = s.roster := rfl

@[simp] theorem othersSend_align (levels : List Bool) (s : State) : (othersSend levels s).align = s.align := rfl

@[simp] theorem othersSend_member (levels : List Bool) (s : State) : (othersSend levels s).member = s.member := rfl

@[simp] theorem othersSend_plan (levels : List Bool) (s : State) : (othersSend levels s).plan = s.plan := rfl

@[simp] theorem othersSend_gen (levels : List Bool) (s : State) : (othersSend levels s).gen = s.gen := rfl

@[simp] theorem othersSend_mon (levels : List Bool) (s : State) : (othersSend levels s).mon = s.mon := rfl

@[simp] theorem othersSend_loader (levels : List Bool) (s : State) : (othersSend levels s).loader = s.loader := rfl

@[simp] theorem othersSend_port (levels : List Bool) (s : State) : (othersSend levels s).port = s.port := rfl

@[simp] theorem othersSend_line (levels : List Bool) (s : State) :
    (othersSend levels s).line = wiredAnd s.line levels := rfl

@[simp] theorem othersSend_pending (levels : List Bool) (s : State) : (othersSend levels s).pending = s.pending := rfl

/-! ### tick -/

@[simp] theorem tick_timer (c : Image) (s : State) : (tick c s).timer = s.timer.tick := rfl

@[simp] theorem tick_roster (c : Image) (s : State) : (tick c s).roster = s.roster := rfl

@[simp] theorem tick_align (c : Image) (s : State) : (tick c s).align = s.align := rfl

@[simp] theorem tick_member (c : Image) (s : State) : (tick c s).member = s.member := rfl

@[simp] theorem tick_plan (c : Image) (s : State) : (tick c s).plan = s.plan := rfl

@[simp] theorem tick_gen (c : Image) (s : State) : (tick c s).gen = s.gen.tick := rfl

@[simp] theorem tick_mon (c : Image) (s : State) : (tick c s).mon = s.mon.tick := rfl

@[simp] theorem tick_loader (c : Image) (s : State) : (tick c s).loader = s.loader := rfl

@[simp] theorem tick_port (c : Image) (s : State) : (tick c s).port = s.port := rfl

@[simp] theorem tick_line (c : Image) (s : State) : (tick c s).line = s.line.tail := rfl

@[simp] theorem tick_pending (c : Image) (s : State) : (tick c s).pending = s.pending := rfl

/-! ### dividePeriod -/

@[simp] theorem dividePeriod_timer (s : State) :
    (dividePeriod s).timer = { s.timer with divider := s.timer.divider + 1 } := rfl

@[simp] theorem dividePeriod_link (s : State) : (dividePeriod s).link = s.link := rfl

@[simp] theorem dividePeriod_roster (s : State) : (dividePeriod s).roster = s.roster := rfl

@[simp] theorem dividePeriod_align (s : State) : (dividePeriod s).align = s.align := rfl

@[simp] theorem dividePeriod_member (s : State) : (dividePeriod s).member = s.member := rfl

@[simp] theorem dividePeriod_plan (s : State) : (dividePeriod s).plan = s.plan := rfl

@[simp] theorem dividePeriod_gen (s : State) : (dividePeriod s).gen = s.gen := rfl

@[simp] theorem dividePeriod_mon (s : State) : (dividePeriod s).mon = s.mon := rfl

@[simp] theorem dividePeriod_loader (s : State) : (dividePeriod s).loader = s.loader := rfl

@[simp] theorem dividePeriod_port (s : State) : (dividePeriod s).port = s.port := rfl

@[simp] theorem dividePeriod_line (s : State) : (dividePeriod s).line = s.line := rfl

@[simp] theorem dividePeriod_pending (s : State) : (dividePeriod s).pending = s.pending := rfl

/-! ### present -/

@[simp] theorem present_timer (s : State) : (present s).timer = s.timer := rfl

@[simp] theorem present_link (s : State) : (present s).link = s.link := rfl

@[simp] theorem present_roster (s : State) : (present s).roster = s.roster := rfl

@[simp] theorem present_align (s : State) : (present s).align = s.align := rfl

@[simp] theorem present_member (s : State) : (present s).member = s.member := rfl

@[simp] theorem present_plan (s : State) : (present s).plan = s.plan := rfl

@[simp] theorem present_gen (s : State) : (present s).gen = s.gen := rfl

@[simp] theorem present_mon (s : State) : (present s).mon = s.mon := rfl

@[simp] theorem present_loader (s : State) : (present s).loader = s.loader := rfl

@[simp] theorem present_port (s : State) :
    (present s).port = { s.port with
      sdo := s.port.sdo ++ [bitOf (outByte (s.port.sdi.length / 8) s) (s.port.sdi.length % 8)] } := rfl

@[simp] theorem present_line (s : State) : (present s).line = s.line := rfl

@[simp] theorem present_pending (s : State) : (present s).pending = s.pending := rfl

/-! ### dropCapture -/

@[simp] theorem dropCapture_timer (s : State) : (dropCapture s).timer = { s.timer with capture := none } := rfl

@[simp] theorem dropCapture_link (s : State) : (dropCapture s).link = s.link := rfl

@[simp] theorem dropCapture_roster (s : State) : (dropCapture s).roster = s.roster := rfl

@[simp] theorem dropCapture_align (s : State) : (dropCapture s).align = s.align := rfl

@[simp] theorem dropCapture_member (s : State) : (dropCapture s).member = s.member := rfl

@[simp] theorem dropCapture_plan (s : State) : (dropCapture s).plan = s.plan := rfl

@[simp] theorem dropCapture_gen (s : State) : (dropCapture s).gen = s.gen := rfl

@[simp] theorem dropCapture_mon (s : State) : (dropCapture s).mon = s.mon := rfl

@[simp] theorem dropCapture_loader (s : State) : (dropCapture s).loader = s.loader := rfl

@[simp] theorem dropCapture_port (s : State) : (dropCapture s).port = s.port := rfl

@[simp] theorem dropCapture_line (s : State) : (dropCapture s).line = s.line := rfl

@[simp] theorem dropCapture_pending (s : State) : (dropCapture s).pending = s.pending := rfl

/-! ### endFrame -/

@[simp] theorem endFrame_timer (s : State) : (endFrame s).timer = s.timer := rfl

@[simp] theorem endFrame_link (s : State) :
    (endFrame s).link = { s.link.endReceiving .hunt with framesRx := countUp s.link.framesRx } := rfl

@[simp] theorem endFrame_roster (s : State) : (endFrame s).roster = s.roster := rfl

@[simp] theorem endFrame_align (s : State) : (endFrame s).align = s.align := rfl

@[simp] theorem endFrame_member (s : State) : (endFrame s).member = s.member := rfl

@[simp] theorem endFrame_plan (s : State) : (endFrame s).plan = s.plan := rfl

@[simp] theorem endFrame_gen (s : State) : (endFrame s).gen = s.gen := rfl

@[simp] theorem endFrame_mon (s : State) : (endFrame s).mon = s.mon := rfl

@[simp] theorem endFrame_loader (s : State) : (endFrame s).loader = s.loader := rfl

@[simp] theorem endFrame_port (s : State) : (endFrame s).port = s.port := rfl

@[simp] theorem endFrame_line (s : State) : (endFrame s).line = s.line := rfl

@[simp] theorem endFrame_pending (s : State) : (endFrame s).pending = s.pending := rfl

/-! ### setLine -/

@[simp] theorem setLine_timer (l : FaultLine) (x : LineState) (s : State) : (setLine l x s).timer = s.timer := rfl

@[simp] theorem setLine_link (l : FaultLine) (x : LineState) (s : State) : (setLine l x s).link = s.link := rfl

@[simp] theorem setLine_roster (l : FaultLine) (x : LineState) (s : State) : (setLine l x s).roster = s.roster := rfl

@[simp] theorem setLine_align (l : FaultLine) (x : LineState) (s : State) : (setLine l x s).align = s.align := rfl

@[simp] theorem setLine_member (l : FaultLine) (x : LineState) (s : State) : (setLine l x s).member = s.member := rfl

@[simp] theorem setLine_plan (l : FaultLine) (x : LineState) (s : State) : (setLine l x s).plan = s.plan := rfl

@[simp] theorem setLine_gen (l : FaultLine) (x : LineState) (s : State) : (setLine l x s).gen = s.gen := rfl

@[simp] theorem setLine_mon (l : FaultLine) (x : LineState) (s : State) :
    (setLine l x s).mon = s.mon.setLine l x := rfl

@[simp] theorem setLine_loader (l : FaultLine) (x : LineState) (s : State) : (setLine l x s).loader = s.loader := rfl

@[simp] theorem setLine_port (l : FaultLine) (x : LineState) (s : State) : (setLine l x s).port = s.port := rfl

@[simp] theorem setLine_line (l : FaultLine) (x : LineState) (s : State) :
    (setLine l x s).line = s.line := rfl

@[simp] theorem setLine_pending (l : FaultLine) (x : LineState) (s : State) :
    (setLine l x s).pending = s.pending := rfl

/-! ### setCutForce -/

@[simp] theorem setCutForce_timer (s : State) : (setCutForce s).timer = s.timer := rfl

@[simp] theorem setCutForce_link (s : State) : (setCutForce s).link = s.link := rfl

@[simp] theorem setCutForce_roster (s : State) : (setCutForce s).roster = s.roster := rfl

@[simp] theorem setCutForce_align (s : State) : (setCutForce s).align = s.align := rfl

@[simp] theorem setCutForce_member (s : State) : (setCutForce s).member = s.member := rfl

@[simp] theorem setCutForce_plan (s : State) : (setCutForce s).plan = s.plan := rfl

@[simp] theorem setCutForce_gen (s : State) : (setCutForce s).gen = s.gen := rfl

@[simp] theorem setCutForce_mon (s : State) : (setCutForce s).mon = { s.mon with cutForce := true } := rfl

@[simp] theorem setCutForce_loader (s : State) : (setCutForce s).loader = s.loader := rfl

@[simp] theorem setCutForce_port (s : State) : (setCutForce s).port = s.port := rfl

@[simp] theorem setCutForce_line (s : State) : (setCutForce s).line = s.line := rfl

@[simp] theorem setCutForce_pending (s : State) : (setCutForce s).pending = s.pending := rfl

/-! ### respond -/

@[simp] theorem respond_timer (b : List Byte) (s : State) : (respond b s).timer = s.timer := rfl

@[simp] theorem respond_link (b : List Byte) (s : State) : (respond b s).link = s.link := rfl

@[simp] theorem respond_roster (b : List Byte) (s : State) : (respond b s).roster = s.roster := rfl

@[simp] theorem respond_align (b : List Byte) (s : State) : (respond b s).align = s.align := rfl

@[simp] theorem respond_member (b : List Byte) (s : State) : (respond b s).member = s.member := rfl

@[simp] theorem respond_plan (b : List Byte) (s : State) : (respond b s).plan = s.plan := rfl

@[simp] theorem respond_gen (b : List Byte) (s : State) : (respond b s).gen = s.gen := rfl

@[simp] theorem respond_mon (b : List Byte) (s : State) : (respond b s).mon = s.mon := rfl

@[simp] theorem respond_loader (b : List Byte) (s : State) : (respond b s).loader = s.loader := rfl

@[simp] theorem respond_port (b : List Byte) (s : State) : (respond b s).port = { s.port with response := b } := rfl

@[simp] theorem respond_line (b : List Byte) (s : State) : (respond b s).line = s.line := rfl

@[simp] theorem respond_pending (b : List Byte) (s : State) : (respond b s).pending = s.pending := rfl

/-! ### copyEntry -/

@[simp] theorem copyEntry_timer (s : State) : (copyEntry s).timer = s.timer := rfl

@[simp] theorem copyEntry_link (s : State) : (copyEntry s).link = s.link := rfl

@[simp] theorem copyEntry_roster (s : State) : (copyEntry s).roster = s.roster := rfl

@[simp] theorem copyEntry_align (s : State) : (copyEntry s).align = s.align := rfl

@[simp] theorem copyEntry_member (s : State) : (copyEntry s).member = s.member := rfl

@[simp] theorem copyEntry_plan (s : State) : (copyEntry s).plan = s.plan := rfl

@[simp] theorem copyEntry_gen (s : State) : (copyEntry s).gen = s.gen := rfl

@[simp] theorem copyEntry_mon (s : State) : (copyEntry s).mon = s.mon := rfl

@[simp] theorem copyEntry_loader (s : State) : (copyEntry s).loader = s.loader := rfl

@[simp] theorem copyEntry_line (s : State) : (copyEntry s).line = s.line := rfl

@[simp] theorem copyEntry_pending (s : State) : (copyEntry s).pending = s.pending := rfl

/-! ### snapshot -/

@[simp] theorem snapshot_timer (s : State) : (snapshot s).timer = s.timer := rfl

@[simp] theorem snapshot_link (s : State) : (snapshot s).link = s.link := rfl

@[simp] theorem snapshot_roster (s : State) : (snapshot s).roster = s.roster := rfl

@[simp] theorem snapshot_align (s : State) : (snapshot s).align = s.align := rfl

@[simp] theorem snapshot_member (s : State) : (snapshot s).member = s.member := rfl

@[simp] theorem snapshot_plan (s : State) : (snapshot s).plan = s.plan := rfl

@[simp] theorem snapshot_gen (s : State) : (snapshot s).gen = s.gen := rfl

@[simp] theorem snapshot_mon (s : State) : (snapshot s).mon = s.mon := rfl

@[simp] theorem snapshot_loader (s : State) : (snapshot s).loader = s.loader := rfl

@[simp] theorem snapshot_port (s : State) :
    (snapshot s).port = { s.port with response := word16 s.port.flags, marks := s.port.flags } := rfl

@[simp] theorem snapshot_line (s : State) : (snapshot s).line = s.line := rfl

@[simp] theorem snapshot_pending (s : State) : (snapshot s).pending = s.pending := rfl

/-! ### writeDemand -/

@[simp] theorem writeDemand_timer (v : BitVec 16) (s : State) : (writeDemand v s).timer = s.timer := rfl

@[simp] theorem writeDemand_link (v : BitVec 16) (s : State) : (writeDemand v s).link = s.link := rfl

@[simp] theorem writeDemand_roster (v : BitVec 16) (s : State) : (writeDemand v s).roster = s.roster := rfl

@[simp] theorem writeDemand_align (v : BitVec 16) (s : State) : (writeDemand v s).align = s.align := rfl

@[simp] theorem writeDemand_member (v : BitVec 16) (s : State) : (writeDemand v s).member = s.member := rfl

@[simp] theorem writeDemand_plan (v : BitVec 16) (s : State) : (writeDemand v s).plan = s.plan := rfl

@[simp] theorem writeDemand_gen (v : BitVec 16) (s : State) :
    (writeDemand v s).gen = { s.gen with staged := v.setWidth 12 } := rfl

@[simp] theorem writeDemand_mon (v : BitVec 16) (s : State) : (writeDemand v s).mon = s.mon := rfl

@[simp] theorem writeDemand_loader (v : BitVec 16) (s : State) : (writeDemand v s).loader = s.loader := rfl

@[simp] theorem writeDemand_port (v : BitVec 16) (s : State) : (writeDemand v s).port = s.port := rfl

@[simp] theorem writeDemand_line (v : BitVec 16) (s : State) :
    (writeDemand v s).line = s.line := rfl

@[simp] theorem writeDemand_pending (v : BitVec 16) (s : State) : (writeDemand v s).pending = s.pending := rfl

/-! ### writeMask -/

@[simp] theorem writeMask_timer (v : BitVec 16) (s : State) : (writeMask v s).timer = s.timer := rfl

@[simp] theorem writeMask_link (v : BitVec 16) (s : State) : (writeMask v s).link = s.link := rfl

@[simp] theorem writeMask_roster (v : BitVec 16) (s : State) : (writeMask v s).roster = s.roster := rfl

@[simp] theorem writeMask_align (v : BitVec 16) (s : State) : (writeMask v s).align = s.align := rfl

@[simp] theorem writeMask_member (v : BitVec 16) (s : State) : (writeMask v s).member = s.member := rfl

@[simp] theorem writeMask_plan (v : BitVec 16) (s : State) : (writeMask v s).plan = s.plan := rfl

@[simp] theorem writeMask_gen (v : BitVec 16) (s : State) : (writeMask v s).gen = s.gen := rfl

@[simp] theorem writeMask_mon (v : BitVec 16) (s : State) : (writeMask v s).mon = s.mon := rfl

@[simp] theorem writeMask_loader (v : BitVec 16) (s : State) : (writeMask v s).loader = s.loader := rfl

@[simp] theorem writeMask_port (v : BitVec 16) (s : State) : (writeMask v s).port = { s.port with mask := v } := rfl

@[simp] theorem writeMask_line (v : BitVec 16) (s : State) : (writeMask v s).line = s.line := rfl

@[simp] theorem writeMask_pending (v : BitVec 16) (s : State) : (writeMask v s).pending = s.pending := rfl

/-! ### clearEvents -/

@[simp] theorem clearEvents_timer (v : BitVec 16) (s : State) : (clearEvents v s).timer = s.timer := rfl

@[simp] theorem clearEvents_link (v : BitVec 16) (s : State) : (clearEvents v s).link = s.link := rfl

@[simp] theorem clearEvents_roster (v : BitVec 16) (s : State) : (clearEvents v s).roster = s.roster := rfl

@[simp] theorem clearEvents_align (v : BitVec 16) (s : State) : (clearEvents v s).align = s.align := rfl

@[simp] theorem clearEvents_member (v : BitVec 16) (s : State) : (clearEvents v s).member = s.member := rfl

@[simp] theorem clearEvents_plan (v : BitVec 16) (s : State) : (clearEvents v s).plan = s.plan := rfl

@[simp] theorem clearEvents_gen (v : BitVec 16) (s : State) : (clearEvents v s).gen = s.gen := rfl

@[simp] theorem clearEvents_mon (v : BitVec 16) (s : State) : (clearEvents v s).mon = s.mon := rfl

@[simp] theorem clearEvents_loader (v : BitVec 16) (s : State) : (clearEvents v s).loader = s.loader := rfl

@[simp] theorem clearEvents_port (v : BitVec 16) (s : State) :
    (clearEvents v s).port = { s.port with flags := s.port.flags &&& ~~~(v &&& s.port.marks) } := rfl

@[simp] theorem clearEvents_line (v : BitVec 16) (s : State) :
    (clearEvents v s).line = s.line := rfl

@[simp] theorem clearEvents_pending (v : BitVec 16) (s : State) : (clearEvents v s).pending = s.pending := rfl

end Sys2Proof.Machine
end

