-- ==== Sys2Proof/Laws/Frame.lean ====
section
/-! SUPPORT. No operation on the station changes the waiting commands, and none but those of the Configuration Loader
and RESTART changes the loader. -/

namespace Sys2Proof.Machine

@[simp] theorem latch_loader (o : Origin) (g : Bool) (s : State) :
    (latch o g s).loader = s.loader := by
  unfold latch
  split_ifs <;> rfl

@[simp] theorem latch_pending (o : Origin) (g : Bool) (s : State) :
    (latch o g s).pending = s.pending := by
  unfold latch
  split_ifs <;> rfl

@[simp] theorem joinPath_loader (s : State) :
    (joinPath s).loader = s.loader := by
  unfold joinPath
  split_ifs <;> rfl

@[simp] theorem joinPath_pending (s : State) :
    (joinPath s).pending = s.pending := by
  unfold joinPath
  split_ifs <;> rfl

@[simp] theorem resync_loader (s : State) :
    (resync s).loader = s.loader := by
  unfold resync
  dsimp only
  split_ifs <;> rfl

@[simp] theorem resync_pending (s : State) :
    (resync s).pending = s.pending := by
  unfold resync
  dsimp only
  split_ifs <;> rfl

@[simp] theorem enterCycle_loader (c : Image) (s : State) :
    (enterCycle c s).loader = s.loader := by
  unfold enterCycle
  dsimp only
  split_ifs <;> simp

@[simp] theorem enterCycle_pending (c : Image) (s : State) :
    (enterCycle c s).pending = s.pending := by
  unfold enterCycle
  dsimp only
  split_ifs <;> simp

@[simp] theorem endForces_loader (c : Image) (l : Bool) (s : State) :
    (endForces c l s).loader = s.loader := by
  unfold endForces
  dsimp only
  split_ifs <;> rfl

@[simp] theorem endForces_pending (c : Image) (l : Bool) (s : State) :
    (endForces c l s).pending = s.pending := by
  unfold endForces
  dsimp only
  split_ifs <;> rfl

@[simp] theorem notice_loader (c : Image) (e l : Bool) (s : State) :
    (notice c e l s).loader = s.loader := by
  unfold notice
  split_ifs <;> simp

@[simp] theorem notice_pending (c : Image) (e l : Bool) (s : State) :
    (notice c e l s).pending = s.pending := by
  unfold notice
  split_ifs <;> simp

@[simp] theorem takeDemand_loader (s : State) :
    (takeDemand s).loader = s.loader := by
  unfold takeDemand
  split_ifs <;> rfl

@[simp] theorem takeDemand_pending (s : State) :
    (takeDemand s).pending = s.pending := by
  unfold takeDemand
  split_ifs <;> rfl

@[simp] theorem beginCycle_loader (c : Image) (h : Bool) (s : State) :
    (beginCycle c h s).loader = s.loader := by
  simp [beginCycle]

@[simp] theorem beginCycle_pending (c : Image) (h : Bool) (s : State) :
    (beginCycle c h s).pending = s.pending := by
  simp [beginCycle]

@[simp] theorem takePhasePoint_loader (c : Image) (h : Bool) (s : State) :
    (takePhasePoint c h s).loader = s.loader := by
  simp [takePhasePoint]

@[simp] theorem takePhasePoint_pending (c : Image) (h : Bool) (s : State) :
    (takePhasePoint c h s).pending = s.pending := by
  simp [takePhasePoint]

@[simp] theorem reachPhasePoint_loader (c : Image) (s : State) :
    (reachPhasePoint c s).loader = s.loader := by
  unfold reachPhasePoint
  split_ifs <;> simp

@[simp] theorem reachPhasePoint_pending (c : Image) (s : State) :
    (reachPhasePoint c s).pending = s.pending := by
  unfold reachPhasePoint
  split_ifs <;> simp

@[simp] theorem takeHeld_loader (c : Image) (s : State) :
    (takeHeld c s).loader = s.loader := by
  unfold takeHeld
  dsimp only
  split_ifs <;> simp

@[simp] theorem takeHeld_pending (c : Image) (s : State) :
    (takeHeld c s).pending = s.pending := by
  unfold takeHeld
  dsimp only
  split_ifs <;> simp

@[simp] theorem jump_loader (c : Image) (s : State) :
    (jump c s).loader = s.loader := by
  unfold jump
  split_ifs <;> simp

@[simp] theorem jump_pending (c : Image) (s : State) :
    (jump c s).pending = s.pending := by
  unfold jump
  split_ifs <;> simp

@[simp] theorem enterActive_loader (c : Image) (s : State) :
    (enterActive c s).loader = s.loader := by
  simp [enterActive]

@[simp] theorem enterActive_pending (c : Image) (s : State) :
    (enterActive c s).pending = s.pending := by
  simp [enterActive]

@[simp] theorem ageRoster_loader (c : Image) (s : State) :
    (ageRoster c s).loader = s.loader := rfl

@[simp] theorem ageRoster_pending (c : Image) (s : State) :
    (ageRoster c s).pending = s.pending := rfl

@[simp] theorem takeSilence_loader (c : Image) (j : Station) (s : State) :
    (takeSilence c j s).loader = s.loader := by
  unfold takeSilence
  split_ifs <;> rfl

@[simp] theorem takeSilence_pending (c : Image) (j : Station) (s : State) :
    (takeSilence c j s).pending = s.pending := by
  unfold takeSilence
  split_ifs <;> rfl

@[simp] theorem dropDeviations_loader (s : State) :
    (dropDeviations s).loader = s.loader := rfl

@[simp] theorem dropDeviations_pending (s : State) :
    (dropDeviations s).pending = s.pending := rfl

@[simp] theorem evaluate_loader (c : Image) (s : State) :
    (evaluate c s).loader = s.loader := by
  unfold evaluate
  split_ifs <;> rfl

@[simp] theorem evaluate_pending (c : Image) (s : State) :
    (evaluate c s).pending = s.pending := by
  unfold evaluate
  split_ifs <;> rfl

@[simp] theorem reevaluate_loader (c : Image) (s : State) :
    (reevaluate c s).loader = s.loader := by
  unfold reevaluate
  split <;> rfl

@[simp] theorem reevaluate_pending (c : Image) (s : State) :
    (reevaluate c s).pending = s.pending := by
  unfold reevaluate
  split <;> rfl

@[simp] theorem repeatIssued_loader (s : State) :
    (repeatIssued s).loader = s.loader := by
  unfold repeatIssued
  split
  · rfl
  · split_ifs <;> simp

@[simp] theorem repeatIssued_pending (s : State) :
    (repeatIssued s).pending = s.pending := by
  unfold repeatIssued
  split
  · rfl
  · split_ifs <;> simp

@[simp] theorem planRest_loader (c : Image) (s : State) :
    (planRest c s).loader = s.loader := by
  simp [planRest]

@[simp] theorem planRest_pending (c : Image) (s : State) :
    (planRest c s).pending = s.pending := by
  simp [planRest]

@[simp] theorem takeIssue_loader (c : Image) (s : State) :
    (takeIssue c s).loader = s.loader := by
  unfold takeIssue
  split_ifs <;> rfl

@[simp] theorem takeIssue_pending (c : Image) (s : State) :
    (takeIssue c s).pending = s.pending := by
  unfold takeIssue
  split_ifs <;> rfl

@[simp] theorem relay_loader (p : Presence) (b : BeaconBody) (s : State) :
    (relay p b s).loader = s.loader := by
  unfold relay
  split
  · rfl
  · split_ifs <;> simp

@[simp] theorem relay_pending (p : Presence) (b : BeaconBody) (s : State) :
    (relay p b s).pending = s.pending := by
  unfold relay
  split
  · rfl
  · split_ifs <;> simp

@[simp] theorem adoptPlan_loader (c : Image) (r : PlanRecord) (s : State) :
    (adoptPlan c r s).loader = s.loader := by
  simp [adoptPlan]

@[simp] theorem adoptPlan_pending (c : Image) (r : PlanRecord) (s : State) :
    (adoptPlan c r s).pending = s.pending := by
  simp [adoptPlan]

@[simp] theorem settleEqual_loader (c : Image) (r h : PlanRecord) (s : State) :
    (settleEqual c r h s).loader = s.loader := by
  unfold settleEqual
  split_ifs <;> simp

@[simp] theorem settleEqual_pending (c : Image) (r h : PlanRecord) (s : State) :
    (settleEqual c r h s).pending = s.pending := by
  unfold settleEqual
  split_ifs <;> simp

@[simp] theorem judgePlan_loader (c : Image) (r : PlanRecord) (s : State) :
    (judgePlan c r s).loader = s.loader := by
  unfold judgePlan
  split
  · rfl
  · split
    · rfl
    · split
      · simp
      · split
        · simp
        · split <;> simp

@[simp] theorem judgePlan_pending (c : Image) (r : PlanRecord) (s : State) :
    (judgePlan c r s).pending = s.pending := by
  unfold judgePlan
  split
  · rfl
  · split
    · rfl
    · split
      · simp
      · split
        · simp
        · split <;> simp

@[simp] theorem handTarget_loader (s : State) :
    (handTarget s).loader = s.loader := by
  unfold handTarget
  split <;> rfl

@[simp] theorem handTarget_pending (s : State) :
    (handTarget s).pending = s.pending := by
  unfold handTarget
  split <;> rfl

@[simp] theorem applyMembership_loader (c : Image) (own : Bool) (s : State) :
    (applyMembership c own s).loader = s.loader := by
  unfold applyMembership
  split <;> simp

@[simp] theorem applyMembership_pending (c : Image) (own : Bool) (s : State) :
    (applyMembership c own s).pending = s.pending := by
  unfold applyMembership
  split <;> simp

@[simp] theorem soleMemberLock_loader (c : Image) (r : PlanRecord) (s : State) :
    (soleMemberLock c r s).loader = s.loader := by
  unfold soleMemberLock
  split_ifs <;> rfl

@[simp] theorem soleMemberLock_pending (c : Image) (r : PlanRecord) (s : State) :
    (soleMemberLock c r s).pending = s.pending := by
  unfold soleMemberLock
  split_ifs <;> rfl

@[simp] theorem applyPlan_loader (c : Image) (r : PlanRecord) (s : State) :
    (applyPlan c r s).loader = s.loader := by
  simp [applyPlan]

@[simp] theorem applyPlan_pending (c : Image) (r : PlanRecord) (s : State) :
    (applyPlan c r s).pending = s.pending := by
  simp [applyPlan]

@[simp] theorem takeApply_loader (c : Image) (s : State) :
    (takeApply c s).loader = s.loader := by
  unfold takeApply
  split
  · rfl
  · split_ifs <;> simp

@[simp] theorem takeApply_pending (c : Image) (s : State) :
    (takeApply c s).pending = s.pending := by
  unfold takeApply
  split
  · rfl
  · split_ifs <;> simp

@[simp] theorem adopt_loader (c : Image) (b : BeaconBody) (s : State) :
    (adopt c b s).loader = s.loader := by
  unfold adopt
  dsimp only
  split_ifs <;> rfl

@[simp] theorem adopt_pending (c : Image) (b : BeaconBody) (s : State) :
    (adopt c b s).pending = s.pending := by
  unfold adopt
  dsimp only
  split_ifs <;> rfl

@[simp] theorem takeUsable_loader (j : Station) (d : Int) (s : State) :
    (takeUsable j d s).loader = s.loader := rfl

@[simp] theorem takeUsable_pending (j : Station) (d : Int) (s : State) :
    (takeUsable j d s).pending = s.pending := rfl

@[simp] theorem takeOutlier_loader (s : State) :
    (takeOutlier s).loader = s.loader := by
  unfold takeOutlier
  dsimp only
  split_ifs <;> simp

@[simp] theorem takeOutlier_pending (s : State) :
    (takeOutlier s).pending = s.pending := by
  unfold takeOutlier
  dsimp only
  split_ifs <;> simp

@[simp] theorem measure_loader (c : Image) (j : Station) (p : Presence) (b : BeaconBody) (s : State) :
    (measure c j p b s).loader = s.loader := by
  unfold measure
  split
  · rfl
  · dsimp only
    split_ifs <;> simp

@[simp] theorem measure_pending (c : Image) (j : Station) (p : Presence) (b : BeaconBody) (s : State) :
    (measure c j p b s).pending = s.pending := by
  unfold measure
  split
  · rfl
  · dsimp only
    split_ifs <;> simp

@[simp] theorem alignBeacon_loader (c : Image) (j : Station) (p : Presence) (b : BeaconBody) (s : State) :
    (alignBeacon c j p b s).loader = s.loader := by
  unfold alignBeacon
  split_ifs <;> simp

@[simp] theorem alignBeacon_pending (c : Image) (j : Station) (p : Presence) (b : BeaconBody) (s : State) :
    (alignBeacon c j p b s).pending = s.pending := by
  unfold alignBeacon
  split_ifs <;> simp

@[simp] theorem lockPulling_loader (c : Image) (m : Int) (s : State) :
    (lockPulling c m s).loader = s.loader := by
  unfold lockPulling
  dsimp only
  split_ifs <;> rfl

@[simp] theorem lockPulling_pending (c : Image) (m : Int) (s : State) :
    (lockPulling c m s).pending = s.pending := by
  unfold lockPulling
  dsimp only
  split_ifs <;> rfl

@[simp] theorem lockLocked_loader (c : Image) (m : Int) (s : State) :
    (lockLocked c m s).loader = s.loader := by
  unfold lockLocked
  dsimp only
  split_ifs <;> rfl

@[simp] theorem lockLocked_pending (c : Image) (m : Int) (s : State) :
    (lockLocked c m s).pending = s.pending := by
  unfold lockLocked
  dsimp only
  split_ifs <;> rfl

@[simp] theorem lockWork_loader (c : Image) (m : Int) (s : State) :
    (lockWork c m s).loader = s.loader := by
  unfold lockWork
  split <;> simp

@[simp] theorem lockWork_pending (c : Image) (m : Int) (s : State) :
    (lockWork c m s).pending = s.pending := by
  unfold lockWork
  split <;> simp

@[simp] theorem alignBoundary_loader (c : Image) (h : Bool) (e : Int) (s : State) :
    (alignBoundary c h e s).loader = s.loader := by
  unfold alignBoundary
  dsimp only
  split_ifs <;> simp

@[simp] theorem alignBoundary_pending (c : Image) (h : Bool) (e : Int) (s : State) :
    (alignBoundary c h e s).pending = s.pending := by
  unfold alignBoundary
  dsimp only
  split_ifs <;> simp

@[simp] theorem found_loader (c : Image) (s : State) :
    (found c s).loader = s.loader := by
  simp [found]

@[simp] theorem found_pending (c : Image) (s : State) :
    (found c s).pending = s.pending := by
  simp [found]

@[simp] theorem takeListenEnd_loader (c : Image) (s : State) :
    (takeListenEnd c s).loader = s.loader := by
  unfold takeListenEnd
  split_ifs <;> simp

@[simp] theorem takeListenEnd_pending (c : Image) (s : State) :
    (takeListenEnd c s).pending = s.pending := by
  unfold takeListenEnd
  split_ifs <;> simp

@[simp] theorem takeJoinEnd_loader (c : Image) (s : State) :
    (takeJoinEnd c s).loader = s.loader := by
  unfold takeJoinEnd
  split_ifs <;> rfl

@[simp] theorem takeJoinEnd_pending (c : Image) (s : State) :
    (takeJoinEnd c s).pending = s.pending := by
  unfold takeJoinEnd
  split_ifs <;> rfl

@[simp] theorem takeDrainEnd_loader (c : Image) (s : State) :
    (takeDrainEnd c s).loader = s.loader := by
  unfold takeDrainEnd
  split_ifs <;> rfl

@[simp] theorem takeDrainEnd_pending (c : Image) (s : State) :
    (takeDrainEnd c s).pending = s.pending := by
  unfold takeDrainEnd
  split_ifs <;> rfl

@[simp] theorem memberBeacon_loader (j : Station) (p : Presence) (b : BeaconBody) (s : State) :
    (memberBeacon j p b s).loader = s.loader := by
  unfold memberBeacon
  split_ifs <;> simp

@[simp] theorem memberBeacon_pending (j : Station) (p : Presence) (b : BeaconBody) (s : State) :
    (memberBeacon j p b s).pending = s.pending := by
  unfold memberBeacon
  split_ifs <;> simp

@[simp] theorem clash_loader (s : State) :
    (clash s).loader = s.loader := by
  unfold clash
  split <;> rfl

@[simp] theorem clash_pending (s : State) :
    (clash s).pending = s.pending := by
  unfold clash
  split <;> rfl

@[simp] theorem commandJoin_loader (s : State) :
    (commandJoin s).loader = s.loader := by
  unfold commandJoin
  split <;> simp

@[simp] theorem commandJoin_pending (s : State) :
    (commandJoin s).pending = s.pending := by
  unfold commandJoin
  split <;> simp

@[simp] theorem leaveGroup_loader (s : State) :
    (leaveGroup s).loader = s.loader := by
  unfold leaveGroup
  split_ifs <;> rfl

@[simp] theorem leaveGroup_pending (s : State) :
    (leaveGroup s).pending = s.pending := by
  unfold leaveGroup
  split_ifs <;> rfl

@[simp] theorem commandLeave_loader (s : State) :
    (commandLeave s).loader = s.loader := by
  unfold commandLeave
  split <;> simp

@[simp] theorem commandLeave_pending (s : State) :
    (commandLeave s).pending = s.pending := by
  unfold commandLeave
  split <;> simp

@[simp] theorem clearLatched_loader (s : State) :
    (clearLatched s).loader = s.loader := by
  unfold clearLatched
  dsimp only
  split_ifs <;> simp

@[simp] theorem clearLatched_pending (s : State) :
    (clearLatched s).pending = s.pending := by
  unfold clearLatched
  dsimp only
  split_ifs <;> simp

@[simp] theorem commandClear_loader (s : State) :
    (commandClear s).loader = s.loader := by
  unfold commandClear
  split_ifs <;> simp

@[simp] theorem commandClear_pending (s : State) :
    (commandClear s).pending = s.pending := by
  unfold commandClear
  split_ifs <;> simp

@[simp] theorem takeTrimEnd_loader (s : State) :
    (takeTrimEnd s).loader = s.loader := by
  unfold takeTrimEnd
  split_ifs <;> rfl

@[simp] theorem takeTrimEnd_pending (s : State) :
    (takeTrimEnd s).pending = s.pending := by
  unfold takeTrimEnd
  split_ifs <;> rfl

@[simp] theorem takeWork_loader (c : Image) (h : Bool) (e : Int) (w : BoundaryWork) (s : State) :
    (takeWork c h e w s).loader = s.loader := by
  cases w <;> simp only [takeWork] <;> (repeat split) <;> simp [fixBeaconPoint]

@[simp] theorem takeWork_pending (c : Image) (h : Bool) (e : Int) (w : BoundaryWork) (s : State) :
    (takeWork c h e w s).pending = s.pending := by
  cases w <;> simp only [takeWork] <;> (repeat split) <;> simp [fixBeaconPoint]

/-! ### Boundaries -/

theorem workStep_keeps (c : Image) (had : Bool) (ended : Int) (acc : Bool × State) (w : BoundaryWork) :
    (workStep c had ended acc w).2.loader = acc.2.loader ∧ (workStep c had ended acc w).2.pending = acc.2.pending := by
  unfold workStep
  split_ifs <;> simp

theorem foldl_workStep_keeps (c : Image) (had : Bool) (ended : Int) (works : List BoundaryWork) (acc : Bool × State) :
    (works.foldl (workStep c had ended) acc).2.loader = acc.2.loader ∧
      (works.foldl (workStep c had ended) acc).2.pending = acc.2.pending := by
  induction works generalizing acc with
  | nil => exact ⟨rfl, rfl⟩
  | cons w ws ih =>
    obtain ⟨h1, h2⟩ := ih (workStep c had ended acc w)
    obtain ⟨h3, h4⟩ := workStep_keeps c had ended acc w
    exact ⟨h1.trans h3, h2.trans h4⟩

@[simp] theorem takeWorks_loader (c : Image) (h : Bool) (e : Int) (ws : List BoundaryWork) (s : State) :
    (takeWorks c h e ws s).loader = s.loader := (foldl_workStep_keeps c h e ws (false, s)).1

@[simp] theorem takeWorks_pending (c : Image) (h : Bool) (e : Int) (ws : List BoundaryWork) (s : State) :
    (takeWorks c h e ws s).pending = s.pending := (foldl_workStep_keeps c h e ws (false, s)).2

@[simp] theorem boundary_loader (c : Image) (order : List BoundaryWork) (s : State) :
    (boundary c order s).loader = s.loader := by
  simp [boundary]

@[simp] theorem boundary_pending (c : Image) (order : List BoundaryWork) (s : State) :
    (boundary c order s).pending = s.pending := by
  simp [boundary]

@[simp] theorem beaconNow_loader (s : State) :
    (beaconNow s).loader = s.loader := rfl

@[simp] theorem beaconNow_pending (s : State) :
    (beaconNow s).pending = s.pending := rfl

@[simp] theorem endInterval_loader (s : State) :
    (endInterval s).loader = s.loader := rfl

@[simp] theorem endInterval_pending (s : State) :
    (endInterval s).pending = s.pending := rfl

/-! ### The link -/

@[simp] theorem launchNow_loader (c : Image) (s : State) :
    (launchNow c s).loader = s.loader := by
  unfold launchNow
  split <;> rfl

@[simp] theorem launchNow_pending (c : Image) (s : State) :
    (launchNow c s).pending = s.pending := by
  unfold launchNow
  split <;> rfl

@[simp] theorem yieldNow_loader (c : Image) (y : YieldSample) (s : State) :
    (yieldNow c y s).loader = s.loader := by
  unfold yieldNow
  split
  · rfl
  · dsimp only
    split_ifs <;> rfl

@[simp] theorem yieldNow_pending (c : Image) (y : YieldSample) (s : State) :
    (yieldNow c y s).pending = s.pending := by
  unfold yieldNow
  split
  · rfl
  · dsimp only
    split_ifs <;> rfl

@[simp] theorem lineFaultNow_loader (s : State) :
    (lineFaultNow s).loader = s.loader := by
  unfold lineFaultNow
  split <;> rfl

@[simp] theorem lineFaultNow_pending (s : State) :
    (lineFaultNow s).pending = s.pending := by
  unfold lineFaultNow
  split <;> rfl

@[simp] theorem completeNow_loader (s : State) :
    (completeNow s).loader = s.loader := by
  unfold completeNow
  split <;> rfl

@[simp] theorem completeNow_pending (s : State) :
    (completeNow s).pending = s.pending := by
  unfold completeNow
  split <;> rfl

@[simp] theorem enterHuntNow_loader (s : State) :
    (enterHuntNow s).loader = s.loader := rfl

@[simp] theorem enterHuntNow_pending (s : State) :
    (enterHuntNow s).pending = s.pending := rfl

@[simp] theorem takeDominant_loader (s : State) :
    (takeDominant s).loader = s.loader := by
  unfold takeDominant
  split <;> rfl

@[simp] theorem takeDominant_pending (s : State) :
    (takeDominant s).pending = s.pending := by
  unfold takeDominant
  split <;> rfl

@[simp] theorem takeEdge_loader (c : Image) (bits : List Bool) (s : State) :
    (takeEdge c bits s).loader = s.loader := by
  unfold takeEdge
  dsimp only
  split_ifs <;> simp

@[simp] theorem takeEdge_pending (c : Image) (bits : List Bool) (s : State) :
    (takeEdge c bits s).pending = s.pending := by
  unfold takeEdge
  dsimp only
  split_ifs <;> simp

@[simp] theorem glitchNow_loader (s : State) :
    (glitchNow s).loader = s.loader := rfl

@[simp] theorem glitchNow_pending (s : State) :
    (glitchNow s).pending = s.pending := rfl

@[simp] theorem frameErrorNow_loader (s : State) :
    (frameErrorNow s).loader = s.loader := rfl

@[simp] theorem frameErrorNow_pending (s : State) :
    (frameErrorNow s).pending = s.pending := rfl

/-! ### Frames of peers -/

@[simp] theorem rosterBeacon_loader (c : Image) (j : Station) (b : BeaconBody) (s : State) :
    (rosterBeacon c j b s).loader = s.loader := rfl

@[simp] theorem rosterBeacon_pending (c : Image) (j : Station) (b : BeaconBody) (s : State) :
    (rosterBeacon c j b s).pending = s.pending := rfl

@[simp] theorem beaconFirst_loader (c : Image) (j : Station) (b : BeaconBody) (s : State) :
    (beaconFirst c j b s).loader = s.loader := by
  simp [beaconFirst]

@[simp] theorem beaconFirst_pending (c : Image) (j : Station) (b : BeaconBody) (s : State) :
    (beaconFirst c j b s).pending = s.pending := by
  simp [beaconFirst]

@[simp] theorem resyncFirst_loader (c : Image) (j : Station) (b : BeaconBody) (s : State) :
    (resyncFirst c j b s).loader = s.loader := by
  unfold resyncFirst
  dsimp only
  split_ifs <;> simp

@[simp] theorem resyncFirst_pending (c : Image) (j : Station) (b : BeaconBody) (s : State) :
    (resyncFirst c j b s).pending = s.pending := by
  unfold resyncFirst
  dsimp only
  split_ifs <;> simp

@[simp] theorem takeBeacon_loader (c : Image) (j : Station) (b : BeaconBody) (o : BeaconOrder) (s : State) :
    (takeBeacon c j b o s).loader = s.loader := by
  cases o <;> simp [takeBeacon]

@[simp] theorem takeBeacon_pending (c : Image) (j : Station) (b : BeaconBody) (o : BeaconOrder) (s : State) :
    (takeBeacon c j b o s).pending = s.pending := by
  cases o <;> simp [takeBeacon]

@[simp] theorem takePlan_loader (c : Image) (j : Station) (r : PlanRecord) (s : State) :
    (takePlan c j r s).loader = s.loader := by
  simp [takePlan]

@[simp] theorem takePlan_pending (c : Image) (j : Station) (r : PlanRecord) (s : State) :
    (takePlan c j r s).pending = s.pending := by
  simp [takePlan]

@[simp] theorem takeFault_loader (c : Image) (j : Station) (b : FaultBody) (s : State) :
    (takeFault c j b s).loader = s.loader := by
  unfold takeFault
  dsimp only
  split_ifs <;> simp

@[simp] theorem takeFault_pending (c : Image) (j : Station) (b : FaultBody) (s : State) :
    (takeFault c j b s).pending = s.pending := by
  unfold takeFault
  dsimp only
  split_ifs <;> simp

@[simp] theorem takeLeave_loader (j : Station) (b : LeaveBody) (s : State) :
    (takeLeave j b s).loader = s.loader := rfl

@[simp] theorem takeLeave_pending (j : Station) (b : LeaveBody) (s : State) :
    (takeLeave j b s).pending = s.pending := rfl

@[simp] theorem deliver_loader (c : Image) (f : Frame) (o : BeaconOrder) (s : State) :
    (deliver c f o s).loader = s.loader := by
  unfold deliver
  dsimp only
  split_ifs
  · simp
  · split <;> simp

@[simp] theorem deliver_pending (c : Image) (f : Frame) (o : BeaconOrder) (s : State) :
    (deliver c f o s).pending = s.pending := by
  unfold deliver
  dsimp only
  split_ifs
  · simp
  · split <;> simp

/-! ### Fault lines -/

@[simp] theorem countCut_loader (s : State) :
    (countCut s).loader = s.loader := rfl

@[simp] theorem countCut_pending (s : State) :
    (countCut s).pending = s.pending := rfl

@[simp] theorem cutBy_loader (l : FaultLine) (s : State) :
    (cutBy l s).loader = s.loader := by
  unfold cutBy
  dsimp only
  split_ifs <;> simp

@[simp] theorem cutBy_pending (l : FaultLine) (s : State) :
    (cutBy l s).pending = s.pending := by
  unfold cutBy
  dsimp only
  split_ifs <;> simp

@[simp] theorem assertAction_loader (c : Image) (l : FaultLine) (s : State) :
    (assertAction c l s).loader = s.loader := by
  unfold assertAction
  split <;> simp

@[simp] theorem assertAction_pending (c : Image) (l : FaultLine) (s : State) :
    (assertAction c l s).pending = s.pending := by
  unfold assertAction
  split <;> simp

@[simp] theorem sampleNow_loader (c : Image) (l : FaultLine) (p : Level) (s : State) :
    (sampleNow c l p s).loader = s.loader := by
  unfold sampleNow
  dsimp only
  split_ifs <;> simp

@[simp] theorem sampleNow_pending (c : Image) (l : FaultLine) (p : Level) (s : State) :
    (sampleNow c l p s).pending = s.pending := by
  unfold sampleNow
  dsimp only
  split_ifs <;> simp

/-! ### The Control Port, but for its commands -/

@[simp] theorem copyCounter_loader (i : Nat) (s : State) :
    (copyCounter i s).loader = s.loader := rfl

@[simp] theorem copyCounter_pending (i : Nat) (s : State) :
    (copyCounter i s).pending = s.pending := rfl

@[simp] theorem clearCounter_loader (s : State) (i : Nat) :
    (clearCounter s i).loader = s.loader := by
  unfold clearCounter
  split <;> rfl

@[simp] theorem clearCounter_pending (s : State) (i : Nat) :
    (clearCounter s i).pending = s.pending := by
  unfold clearCounter
  split <;> rfl

@[simp] theorem beginWork_loader (k : Nat) (s : State) :
    (beginWork k s).loader = s.loader := by
  unfold beginWork
  split <;> (repeat split) <;> simp

@[simp] theorem beginWork_pending (k : Nat) (s : State) :
    (beginWork k s).pending = s.pending := by
  unfold beginWork
  split <;> (repeat split) <;> simp

@[simp] theorem fallEdge_loader (s : State) :
    (fallEdge s).loader = s.loader := by
  unfold fallEdge
  split
  · split_ifs <;> simp
  · rfl
  · rfl

@[simp] theorem fallEdge_pending (s : State) :
    (fallEdge s).pending = s.pending := by
  unfold fallEdge
  split
  · split_ifs <;> simp
  · rfl
  · rfl

@[simp] theorem completeWork_loader (k : Nat) (b : Byte) (s : State) :
    (completeWork k b s).loader = s.loader := by
  unfold completeWork
  split_ifs <;> rfl

@[simp] theorem completeWork_pending (k : Nat) (b : Byte) (s : State) :
    (completeWork k b s).pending = s.pending := by
  unfold completeWork
  split_ifs <;> rfl

@[simp] theorem riseEdge_loader (bit : Bool) (s : State) :
    (riseEdge bit s).loader = s.loader := by
  unfold riseEdge
  split
  · dsimp only
    split_ifs <;> simp
  · rfl
  · rfl

@[simp] theorem riseEdge_pending (bit : Bool) (s : State) :
    (riseEdge bit s).pending = s.pending := by
  unfold riseEdge
  split
  · dsimp only
    split_ifs <;> simp
  · rfl
  · rfl

@[simp] theorem clockBit_loader (s : State) (bit : Bool) :
    (clockBit s bit).loader = s.loader := by
  simp [clockBit]

@[simp] theorem clockBit_pending (s : State) (bit : Bool) :
    (clockBit s bit).pending = s.pending := by
  simp [clockBit]

end Sys2Proof.Machine
end

