-- ==== Sys2Proof/Laws/Frames.lean ====
section
/-! SUPPORT. Numbers and bytes as bits, and the lengths of frames. -/

namespace Sys2Proof.Machine

/-- `natBits w n` has w bits. -/
@[simp] theorem length_natBits (w n : Nat) : (natBits w n).length = w := by
  induction w with
  | zero => rfl
  | succ w ih => simp [natBits, ih]

/-- Reading on from a number already read. -/
theorem foldl_natBits (w n acc : Nat) :
    (natBits w n).foldl (fun a b => 2 * a + b.toNat) acc = 2 ^ w * acc + n % 2 ^ w := by
  induction w generalizing acc with
  | zero => simp [natBits, Nat.mod_one]
  | succ w ih =>
    have hb : n % 2 ^ (w + 1) = 2 ^ w * (n.testBit w).toNat + n % 2 ^ w := by
      rw [Nat.pow_succ, Nat.mod_mul, Nat.add_comm, Nat.toNat_testBit]
    simp only [natBits, List.foldl_cons]
    rw [ih, hb]
    ring

/-- The bits of a number spell it, modulo their count. -/
@[simp] theorem bitsNat_natBits (w n : Nat) : bitsNat (natBits w n) = n % 2 ^ w := by
  unfold bitsNat
  rw [foldl_natBits]
  simp

/-- The CRC-covered part has the length its kind fixes (R19, R20). -/
theorem length_coveredBits (f : Frame) : (coveredBits f).length + 11 = frameLength f := by
  rcases f with ⟨src, b | b | b | b⟩ <;>
    simp [coveredBits, bodyBits, frameLength, bodyKind, kindBits]

/-- A frame has the length its kind fixes (R19). -/
@[simp] theorem length_frameBits (f : Frame) : (frameBits f).length = frameLength f := by
  have := length_coveredBits f
  simp [frameBits]
  omega

/-! ### Bytes -/

@[simp] theorem byteBits_nil : byteBits [] = [] := rfl

@[simp] theorem byteBits_cons (b : Byte) (bs : List Byte) : byteBits (b :: bs) = natBits 8 b.toNat ++ byteBits bs := rfl

@[simp] theorem length_byteBits (bs : List Byte) : (byteBits bs).length = 8 * bs.length := by
  induction bs with
  | nil => rfl
  | cons b bs ih => simp [ih]; omega

/-- Eight bits spell their byte. -/
@[simp] theorem bytesOf_natBits (b : Byte) (rest : List Bool) :
    bytesOf (natBits 8 b.toNat ++ rest) = b :: bytesOf rest := by
  change BitVec.ofNat 8 (bitsNat (natBits 8 b.toNat)) :: bytesOf rest = _
  rw [bitsNat_natBits]
  congr 1
  apply BitVec.eq_of_toNat_eq
  have := b.isLt
  simp only [BitVec.toNat_ofNat]
  omega

/-- Fewer than eight bits spell no byte. -/
theorem bytesOf_short {bits : List Bool} (h : bits.length < 8) : bytesOf bits = [] := by
  unfold bytesOf
  split
  · simp only [List.length_cons] at h
    omega
  · rfl

/-- The bits of bytes spell those bytes, and what follows them. -/
@[simp] theorem bytesOf_byteBits_append (bs : List Byte) (rest : List Bool) :
    bytesOf (byteBits bs ++ rest) = bs ++ bytesOf rest := by
  induction bs with
  | nil => rfl
  | cons b bs ih => rw [byteBits_cons, List.append_assoc, bytesOf_natBits, ih]; rfl

@[simp] theorem bytesOf_byteBits (bs : List Byte) : bytesOf (byteBits bs) = bs := by
  have := bytesOf_byteBits_append bs []
  rw [List.append_nil] at this
  rw [this]
  simp [bytesOf]

/-- Whole bytes of bits, and what follows them. -/
theorem bytesOf_append {bits : List Bool} {k : Nat} (h : bits.length = 8 * k) (rest : List Bool) :
    bytesOf (bits ++ rest) = bytesOf bits ++ bytesOf rest := by
  induction k generalizing bits with
  | zero =>
    have : bits = [] := List.length_eq_zero_iff.mp h
    subst this
    rfl
  | succ k ih =>
    match bits, h with
    | b7 :: b6 :: b5 :: b4 :: b3 :: b2 :: b1 :: b0 :: more, h =>
      have hm : more.length = 8 * k := by
        simp only [List.length_cons] at h
        omega
      change _ :: bytesOf (more ++ rest) = _ :: (bytesOf more ++ bytesOf rest)
      rw [ih hm]
    | [], h => simp at h
    | [_], h => simp at h; omega
    | [_, _], h => simp at h; omega
    | [_, _, _], h => simp at h; omega
    | [_, _, _, _], h => simp at h; omega
    | [_, _, _, _, _], h => simp at h; omega
    | [_, _, _, _, _, _], h => simp at h; omega
    | [_, _, _, _, _, _, _], h => simp at h; omega

/-- Bits agree with themselves, and with what continues them. -/
@[simp] theorem agrees_append (a b : List Bool) : agrees a (a ++ b) = true := by
  induction a with
  | nil => cases b <;> rfl
  | cons x a ih => simp [agrees, ih]

end Sys2Proof.Machine
end

