-- ==== Sys2Proof/Laws/Link.lean ====
section
/-! SUPPORT. What the operations on the transmit queue do to each field of the link (R23 to R25). -/

namespace Sys2Proof.Machine

/-! ### settleTx -/

@[simp] theorem settleTx_qFault (l : Link) : l.settleTx.qFault = l.qFault := by
  unfold Link.settleTx; split <;> rfl

@[simp] theorem settleTx_qLeave (l : Link) : l.settleTx.qLeave = l.qLeave := by
  unfold Link.settleTx; split <;> rfl

@[simp] theorem settleTx_qPlan (l : Link) : l.settleTx.qPlan = l.qPlan := by
  unfold Link.settleTx; split <;> rfl

@[simp] theorem settleTx_qBeacon (l : Link) : l.settleTx.qBeacon = l.qBeacon := by
  unfold Link.settleTx; split <;> rfl

@[simp] theorem settleTx_backoff (l : Link) : l.settleTx.backoff = l.backoff := by
  unfold Link.settleTx; split <;> rfl

@[simp] theorem settleTx_rx (l : Link) : l.settleTx.rx = l.rx := by
  unfold Link.settleTx; split <;> rfl

@[simp] theorem settleTx_rxBits (l : Link) : l.settleTx.rxBits = l.rxBits := by
  unfold Link.settleTx; split <;> rfl

@[simp] theorem settleTx_idle (l : Link) : l.settleTx.idle = l.idle := by
  unfold Link.settleTx; split <;> rfl

@[simp] theorem settleTx_beaconPoint (l : Link) : l.settleTx.beaconPoint = l.beaconPoint := by
  unfold Link.settleTx; split <;> rfl

@[simp] theorem settleTx_beaconDone (l : Link) : l.settleTx.beaconDone = l.beaconDone := by
  unfold Link.settleTx; split <;> rfl

@[simp] theorem settleTx_framesTx (l : Link) : l.settleTx.framesTx = l.framesTx := by
  unfold Link.settleTx; split <;> rfl

@[simp] theorem settleTx_framesRx (l : Link) : l.settleTx.framesRx = l.framesRx := by
  unfold Link.settleTx; split <;> rfl

@[simp] theorem settleTx_rxErr (l : Link) : l.settleTx.rxErr = l.rxErr := by
  unfold Link.settleTx; split <;> rfl

@[simp] theorem settleTx_yields (l : Link) : l.settleTx.yields = l.yields := by
  unfold Link.settleTx; split <;> rfl

@[simp] theorem settleTx_txDrop (l : Link) : l.settleTx.txDrop = l.txDrop := by
  unfold Link.settleTx; split <;> rfl

@[simp] theorem settleTx_inFlight (l : Link) : l.settleTx.inFlight = l.inFlight := by
  unfold Link.settleTx; split <;> rfl

/-- The transmitter after a change of the queue (R25). -/
theorem settleTx_tx (l : Link) :
    l.settleTx.tx = match l.tx with
      | .off => .off
      | .sending => .sending
      | .idle => if l.waiting then .defer else .idle
      | .defer => if l.waiting then .defer else .idle := by
  unfold Link.settleTx; split <;> simp_all

@[simp] theorem settleTx_waiting (l : Link) : l.settleTx.waiting = l.waiting := by
  simp [Link.waiting]

/-! ### loseSlot -/

@[simp] theorem loseSlot_qFault (l : Link) (k : FrameKind) : (l.loseSlot k).qFault = l.qFault := rfl

@[simp] theorem loseSlot_qLeave (l : Link) (k : FrameKind) : (l.loseSlot k).qLeave = l.qLeave := rfl

@[simp] theorem loseSlot_qPlan (l : Link) (k : FrameKind) : (l.loseSlot k).qPlan = l.qPlan := rfl

@[simp] theorem loseSlot_qBeacon (l : Link) (k : FrameKind) : (l.loseSlot k).qBeacon = l.qBeacon := rfl

@[simp] theorem loseSlot_backoff (l : Link) (k : FrameKind) : (l.loseSlot k).backoff = l.backoff := rfl

@[simp] theorem loseSlot_rx (l : Link) (k : FrameKind) : (l.loseSlot k).rx = l.rx := rfl

@[simp] theorem loseSlot_rxBits (l : Link) (k : FrameKind) : (l.loseSlot k).rxBits = l.rxBits := rfl

@[simp] theorem loseSlot_idle (l : Link) (k : FrameKind) : (l.loseSlot k).idle = l.idle := rfl

@[simp] theorem loseSlot_beaconPoint (l : Link) (k : FrameKind) : (l.loseSlot k).beaconPoint = l.beaconPoint := rfl

@[simp] theorem loseSlot_beaconDone (l : Link) (k : FrameKind) : (l.loseSlot k).beaconDone = l.beaconDone := rfl

@[simp] theorem loseSlot_framesTx (l : Link) (k : FrameKind) : (l.loseSlot k).framesTx = l.framesTx := rfl

@[simp] theorem loseSlot_framesRx (l : Link) (k : FrameKind) : (l.loseSlot k).framesRx = l.framesRx := rfl

@[simp] theorem loseSlot_rxErr (l : Link) (k : FrameKind) : (l.loseSlot k).rxErr = l.rxErr := rfl

@[simp] theorem loseSlot_yields (l : Link) (k : FrameKind) : (l.loseSlot k).yields = l.yields := rfl

@[simp] theorem loseSlot_txDrop (l : Link) (k : FrameKind) : (l.loseSlot k).txDrop = l.txDrop := rfl

@[simp] theorem loseSlot_tx (l : Link) (k : FrameKind) : (l.loseSlot k).tx = l.tx := rfl

/-- Losing a slot leaves the frame on the line (R26). -/
@[simp] theorem loseSlot_frame (l : Link) (k : FrameKind) :
    (l.loseSlot k).inFlight.map InFlight.frame = l.inFlight.map InFlight.frame := by
  unfold Link.loseSlot
  cases l.inFlight with
  | none => rfl
  | some f => simp; split <;> rfl

@[simp] theorem loseSlot_isSome (l : Link) (k : FrameKind) :
    (l.loseSlot k).inFlight.isSome = l.inFlight.isSome := by
  unfold Link.loseSlot; simp

/-! ### requestFault -/

@[simp] theorem requestFault_qFault (l : Link) (r : FaultRequest) : (l.requestFault r).qFault = some ⟨r, 0⟩ := by
  simp [Link.requestFault]

@[simp] theorem requestFault_qLeave (l : Link) (r : FaultRequest) : (l.requestFault r).qLeave = l.qLeave := by
  simp [Link.requestFault]

@[simp] theorem requestFault_qPlan (l : Link) (r : FaultRequest) : (l.requestFault r).qPlan = l.qPlan := by
  simp [Link.requestFault]

@[simp] theorem requestFault_qBeacon (l : Link) (r : FaultRequest) : (l.requestFault r).qBeacon = l.qBeacon := by
  simp [Link.requestFault]

@[simp] theorem requestFault_backoff (l : Link) (r : FaultRequest) : (l.requestFault r).backoff = l.backoff := by
  simp [Link.requestFault]

@[simp] theorem requestFault_rx (l : Link) (r : FaultRequest) : (l.requestFault r).rx = l.rx := by
  simp [Link.requestFault]

@[simp] theorem requestFault_rxBits (l : Link) (r : FaultRequest) : (l.requestFault r).rxBits = l.rxBits := by
  simp [Link.requestFault]

@[simp] theorem requestFault_idle (l : Link) (r : FaultRequest) : (l.requestFault r).idle = l.idle := by
  simp [Link.requestFault]

@[simp] theorem requestFault_beaconPoint (l : Link) (r : FaultRequest) : (l.requestFault r).beaconPoint = l.beaconPoint := by
  simp [Link.requestFault]

@[simp] theorem requestFault_beaconDone (l : Link) (r : FaultRequest) : (l.requestFault r).beaconDone = l.beaconDone := by
  simp [Link.requestFault]

@[simp] theorem requestFault_framesTx (l : Link) (r : FaultRequest) : (l.requestFault r).framesTx = l.framesTx := by
  simp [Link.requestFault]

@[simp] theorem requestFault_framesRx (l : Link) (r : FaultRequest) : (l.requestFault r).framesRx = l.framesRx := by
  simp [Link.requestFault]

@[simp] theorem requestFault_rxErr (l : Link) (r : FaultRequest) : (l.requestFault r).rxErr = l.rxErr := by
  simp [Link.requestFault]

@[simp] theorem requestFault_yields (l : Link) (r : FaultRequest) : (l.requestFault r).yields = l.yields := by
  simp [Link.requestFault]

@[simp] theorem requestFault_txDrop (l : Link) (r : FaultRequest) : (l.requestFault r).txDrop = l.txDrop := by
  simp [Link.requestFault]

@[simp] theorem requestFault_frame (l : Link) (r : FaultRequest) :
    (l.requestFault r).inFlight.map InFlight.frame = l.inFlight.map InFlight.frame := by
  simp [Link.requestFault]

/-! ### requestLeave -/

@[simp] theorem requestLeave_qFault (l : Link) (r : LeaveReason) : (l.requestLeave r).qFault = l.qFault := by
  simp [Link.requestLeave]

@[simp] theorem requestLeave_qLeave (l : Link) (r : LeaveReason) : (l.requestLeave r).qLeave = some ⟨r, 0⟩ := by
  simp [Link.requestLeave]

@[simp] theorem requestLeave_qPlan (l : Link) (r : LeaveReason) : (l.requestLeave r).qPlan = l.qPlan := by
  simp [Link.requestLeave]

@[simp] theorem requestLeave_qBeacon (l : Link) (r : LeaveReason) : (l.requestLeave r).qBeacon = l.qBeacon := by
  simp [Link.requestLeave]

@[simp] theorem requestLeave_backoff (l : Link) (r : LeaveReason) : (l.requestLeave r).backoff = l.backoff := by
  simp [Link.requestLeave]

@[simp] theorem requestLeave_rx (l : Link) (r : LeaveReason) : (l.requestLeave r).rx = l.rx := by
  simp [Link.requestLeave]

@[simp] theorem requestLeave_rxBits (l : Link) (r : LeaveReason) : (l.requestLeave r).rxBits = l.rxBits := by
  simp [Link.requestLeave]

@[simp] theorem requestLeave_idle (l : Link) (r : LeaveReason) : (l.requestLeave r).idle = l.idle := by
  simp [Link.requestLeave]

@[simp] theorem requestLeave_beaconPoint (l : Link) (r : LeaveReason) : (l.requestLeave r).beaconPoint = l.beaconPoint := by
  simp [Link.requestLeave]

@[simp] theorem requestLeave_beaconDone (l : Link) (r : LeaveReason) : (l.requestLeave r).beaconDone = l.beaconDone := by
  simp [Link.requestLeave]

@[simp] theorem requestLeave_framesTx (l : Link) (r : LeaveReason) : (l.requestLeave r).framesTx = l.framesTx := by
  simp [Link.requestLeave]

@[simp] theorem requestLeave_framesRx (l : Link) (r : LeaveReason) : (l.requestLeave r).framesRx = l.framesRx := by
  simp [Link.requestLeave]

@[simp] theorem requestLeave_rxErr (l : Link) (r : LeaveReason) : (l.requestLeave r).rxErr = l.rxErr := by
  simp [Link.requestLeave]

@[simp] theorem requestLeave_yields (l : Link) (r : LeaveReason) : (l.requestLeave r).yields = l.yields := by
  simp [Link.requestLeave]

@[simp] theorem requestLeave_txDrop (l : Link) (r : LeaveReason) : (l.requestLeave r).txDrop = l.txDrop := by
  simp [Link.requestLeave]

@[simp] theorem requestLeave_frame (l : Link) (r : LeaveReason) :
    (l.requestLeave r).inFlight.map InFlight.frame = l.inFlight.map InFlight.frame := by
  simp [Link.requestLeave]

/-! ### requestPlan -/

@[simp] theorem requestPlan_qFault (l : Link) (r : PlanRecord) : (l.requestPlan r).qFault = l.qFault := by
  simp [Link.requestPlan]

@[simp] theorem requestPlan_qLeave (l : Link) (r : PlanRecord) : (l.requestPlan r).qLeave = l.qLeave := by
  simp [Link.requestPlan]

@[simp] theorem requestPlan_qPlan (l : Link) (r : PlanRecord) : (l.requestPlan r).qPlan = some ⟨r, 0⟩ := by
  simp [Link.requestPlan]

@[simp] theorem requestPlan_qBeacon (l : Link) (r : PlanRecord) : (l.requestPlan r).qBeacon = l.qBeacon := by
  simp [Link.requestPlan]

@[simp] theorem requestPlan_backoff (l : Link) (r : PlanRecord) : (l.requestPlan r).backoff = l.backoff := by
  simp [Link.requestPlan]

@[simp] theorem requestPlan_rx (l : Link) (r : PlanRecord) : (l.requestPlan r).rx = l.rx := by
  simp [Link.requestPlan]

@[simp] theorem requestPlan_rxBits (l : Link) (r : PlanRecord) : (l.requestPlan r).rxBits = l.rxBits := by
  simp [Link.requestPlan]

@[simp] theorem requestPlan_idle (l : Link) (r : PlanRecord) : (l.requestPlan r).idle = l.idle := by
  simp [Link.requestPlan]

@[simp] theorem requestPlan_beaconPoint (l : Link) (r : PlanRecord) : (l.requestPlan r).beaconPoint = l.beaconPoint := by
  simp [Link.requestPlan]

@[simp] theorem requestPlan_beaconDone (l : Link) (r : PlanRecord) : (l.requestPlan r).beaconDone = l.beaconDone := by
  simp [Link.requestPlan]

@[simp] theorem requestPlan_framesTx (l : Link) (r : PlanRecord) : (l.requestPlan r).framesTx = l.framesTx := by
  simp [Link.requestPlan]

@[simp] theorem requestPlan_framesRx (l : Link) (r : PlanRecord) : (l.requestPlan r).framesRx = l.framesRx := by
  simp [Link.requestPlan]

@[simp] theorem requestPlan_rxErr (l : Link) (r : PlanRecord) : (l.requestPlan r).rxErr = l.rxErr := by
  simp [Link.requestPlan]

@[simp] theorem requestPlan_yields (l : Link) (r : PlanRecord) : (l.requestPlan r).yields = l.yields := by
  simp [Link.requestPlan]

@[simp] theorem requestPlan_txDrop (l : Link) (r : PlanRecord) : (l.requestPlan r).txDrop = l.txDrop := by
  simp [Link.requestPlan]

@[simp] theorem requestPlan_frame (l : Link) (r : PlanRecord) :
    (l.requestPlan r).inFlight.map InFlight.frame = l.inFlight.map InFlight.frame := by
  simp [Link.requestPlan]

/-! ### requestBeacon -/

@[simp] theorem requestBeacon_qFault (l : Link) : l.requestBeacon.qFault = l.qFault := by
  simp [Link.requestBeacon]

@[simp] theorem requestBeacon_qLeave (l : Link) : l.requestBeacon.qLeave = l.qLeave := by
  simp [Link.requestBeacon]

@[simp] theorem requestBeacon_qPlan (l : Link) : l.requestBeacon.qPlan = l.qPlan := by
  simp [Link.requestBeacon]

@[simp] theorem requestBeacon_qBeacon (l : Link) : l.requestBeacon.qBeacon = some ⟨(), 0⟩ := by
  simp [Link.requestBeacon]

@[simp] theorem requestBeacon_backoff (l : Link) : l.requestBeacon.backoff = l.backoff := by
  simp [Link.requestBeacon]

@[simp] theorem requestBeacon_rx (l : Link) : l.requestBeacon.rx = l.rx := by
  simp [Link.requestBeacon]

@[simp] theorem requestBeacon_rxBits (l : Link) : l.requestBeacon.rxBits = l.rxBits := by
  simp [Link.requestBeacon]

@[simp] theorem requestBeacon_idle (l : Link) : l.requestBeacon.idle = l.idle := by
  simp [Link.requestBeacon]

@[simp] theorem requestBeacon_beaconPoint (l : Link) : l.requestBeacon.beaconPoint = l.beaconPoint := by
  simp [Link.requestBeacon]

@[simp] theorem requestBeacon_beaconDone (l : Link) : l.requestBeacon.beaconDone = l.beaconDone := by
  simp [Link.requestBeacon]

@[simp] theorem requestBeacon_framesTx (l : Link) : l.requestBeacon.framesTx = l.framesTx := by
  simp [Link.requestBeacon]

@[simp] theorem requestBeacon_framesRx (l : Link) : l.requestBeacon.framesRx = l.framesRx := by
  simp [Link.requestBeacon]

@[simp] theorem requestBeacon_rxErr (l : Link) : l.requestBeacon.rxErr = l.rxErr := by
  simp [Link.requestBeacon]

@[simp] theorem requestBeacon_yields (l : Link) : l.requestBeacon.yields = l.yields := by
  simp [Link.requestBeacon]

@[simp] theorem requestBeacon_txDrop (l : Link) : l.requestBeacon.txDrop = l.txDrop := by
  simp [Link.requestBeacon]

@[simp] theorem requestBeacon_frame (l : Link) :
    l.requestBeacon.inFlight.map InFlight.frame = l.inFlight.map InFlight.frame := by
  simp [Link.requestBeacon]

/-! ### withdrawBeacon -/

@[simp] theorem withdrawBeacon_qFault (l : Link) : l.withdrawBeacon.qFault = l.qFault := by
  simp [Link.withdrawBeacon]

@[simp] theorem withdrawBeacon_qLeave (l : Link) : l.withdrawBeacon.qLeave = l.qLeave := by
  simp [Link.withdrawBeacon]

@[simp] theorem withdrawBeacon_qPlan (l : Link) : l.withdrawBeacon.qPlan = l.qPlan := by
  simp [Link.withdrawBeacon]

@[simp] theorem withdrawBeacon_qBeacon (l : Link) : l.withdrawBeacon.qBeacon = none := by
  simp [Link.withdrawBeacon]

@[simp] theorem withdrawBeacon_backoff (l : Link) : l.withdrawBeacon.backoff = l.backoff := by
  simp [Link.withdrawBeacon]

@[simp] theorem withdrawBeacon_rx (l : Link) : l.withdrawBeacon.rx = l.rx := by
  simp [Link.withdrawBeacon]

@[simp] theorem withdrawBeacon_rxBits (l : Link) : l.withdrawBeacon.rxBits = l.rxBits := by
  simp [Link.withdrawBeacon]

@[simp] theorem withdrawBeacon_idle (l : Link) : l.withdrawBeacon.idle = l.idle := by
  simp [Link.withdrawBeacon]

@[simp] theorem withdrawBeacon_beaconPoint (l : Link) : l.withdrawBeacon.beaconPoint = l.beaconPoint := by
  simp [Link.withdrawBeacon]

@[simp] theorem withdrawBeacon_beaconDone (l : Link) : l.withdrawBeacon.beaconDone = l.beaconDone := by
  simp [Link.withdrawBeacon]

@[simp] theorem withdrawBeacon_framesTx (l : Link) : l.withdrawBeacon.framesTx = l.framesTx := by
  simp [Link.withdrawBeacon]

@[simp] theorem withdrawBeacon_framesRx (l : Link) : l.withdrawBeacon.framesRx = l.framesRx := by
  simp [Link.withdrawBeacon]

@[simp] theorem withdrawBeacon_rxErr (l : Link) : l.withdrawBeacon.rxErr = l.rxErr := by
  simp [Link.withdrawBeacon]

@[simp] theorem withdrawBeacon_yields (l : Link) : l.withdrawBeacon.yields = l.yields := by
  simp [Link.withdrawBeacon]

@[simp] theorem withdrawBeacon_txDrop (l : Link) : l.withdrawBeacon.txDrop = l.txDrop := by
  simp [Link.withdrawBeacon]

@[simp] theorem withdrawBeacon_frame (l : Link) :
    l.withdrawBeacon.inFlight.map InFlight.frame = l.inFlight.map InFlight.frame := by
  simp [Link.withdrawBeacon]

/-! ### withdrawPlan -/

@[simp] theorem withdrawPlan_qFault (l : Link) : l.withdrawPlan.qFault = l.qFault := by
  simp [Link.withdrawPlan]

@[simp] theorem withdrawPlan_qLeave (l : Link) : l.withdrawPlan.qLeave = l.qLeave := by
  simp [Link.withdrawPlan]

@[simp] theorem withdrawPlan_qPlan (l : Link) : l.withdrawPlan.qPlan = none := by
  simp [Link.withdrawPlan]

@[simp] theorem withdrawPlan_qBeacon (l : Link) : l.withdrawPlan.qBeacon = l.qBeacon := by
  simp [Link.withdrawPlan]

@[simp] theorem withdrawPlan_backoff (l : Link) : l.withdrawPlan.backoff = l.backoff := by
  simp [Link.withdrawPlan]

@[simp] theorem withdrawPlan_rx (l : Link) : l.withdrawPlan.rx = l.rx := by
  simp [Link.withdrawPlan]

@[simp] theorem withdrawPlan_rxBits (l : Link) : l.withdrawPlan.rxBits = l.rxBits := by
  simp [Link.withdrawPlan]

@[simp] theorem withdrawPlan_idle (l : Link) : l.withdrawPlan.idle = l.idle := by
  simp [Link.withdrawPlan]

@[simp] theorem withdrawPlan_beaconPoint (l : Link) : l.withdrawPlan.beaconPoint = l.beaconPoint := by
  simp [Link.withdrawPlan]

@[simp] theorem withdrawPlan_beaconDone (l : Link) : l.withdrawPlan.beaconDone = l.beaconDone := by
  simp [Link.withdrawPlan]

@[simp] theorem withdrawPlan_framesTx (l : Link) : l.withdrawPlan.framesTx = l.framesTx := by
  simp [Link.withdrawPlan]

@[simp] theorem withdrawPlan_framesRx (l : Link) : l.withdrawPlan.framesRx = l.framesRx := by
  simp [Link.withdrawPlan]

@[simp] theorem withdrawPlan_rxErr (l : Link) : l.withdrawPlan.rxErr = l.rxErr := by
  simp [Link.withdrawPlan]

@[simp] theorem withdrawPlan_yields (l : Link) : l.withdrawPlan.yields = l.yields := by
  simp [Link.withdrawPlan]

@[simp] theorem withdrawPlan_txDrop (l : Link) : l.withdrawPlan.txDrop = l.txDrop := by
  simp [Link.withdrawPlan]

@[simp] theorem withdrawPlan_frame (l : Link) :
    l.withdrawPlan.inFlight.map InFlight.frame = l.inFlight.map InFlight.frame := by
  simp [Link.withdrawPlan]

/-! ### withdrawFor -/

@[simp] theorem withdrawFor_qFault (l : Link) (m : Membership) : (l.withdrawFor m).qFault = l.qFault := by
  cases m <;> simp [Link.withdrawFor]

@[simp] theorem withdrawFor_qLeave (l : Link) (m : Membership) : (l.withdrawFor m).qLeave = l.qLeave := by
  cases m <;> simp [Link.withdrawFor]

@[simp] theorem withdrawFor_backoff (l : Link) (m : Membership) : (l.withdrawFor m).backoff = l.backoff := by
  cases m <;> simp [Link.withdrawFor]

@[simp] theorem withdrawFor_rx (l : Link) (m : Membership) : (l.withdrawFor m).rx = l.rx := by
  cases m <;> simp [Link.withdrawFor]

@[simp] theorem withdrawFor_rxBits (l : Link) (m : Membership) : (l.withdrawFor m).rxBits = l.rxBits := by
  cases m <;> simp [Link.withdrawFor]

@[simp] theorem withdrawFor_idle (l : Link) (m : Membership) : (l.withdrawFor m).idle = l.idle := by
  cases m <;> simp [Link.withdrawFor]

@[simp] theorem withdrawFor_beaconPoint (l : Link) (m : Membership) : (l.withdrawFor m).beaconPoint = l.beaconPoint := by
  cases m <;> simp [Link.withdrawFor]

@[simp] theorem withdrawFor_beaconDone (l : Link) (m : Membership) : (l.withdrawFor m).beaconDone = l.beaconDone := by
  cases m <;> simp [Link.withdrawFor]

@[simp] theorem withdrawFor_framesTx (l : Link) (m : Membership) : (l.withdrawFor m).framesTx = l.framesTx := by
  cases m <;> simp [Link.withdrawFor]

@[simp] theorem withdrawFor_framesRx (l : Link) (m : Membership) : (l.withdrawFor m).framesRx = l.framesRx := by
  cases m <;> simp [Link.withdrawFor]

@[simp] theorem withdrawFor_rxErr (l : Link) (m : Membership) : (l.withdrawFor m).rxErr = l.rxErr := by
  cases m <;> simp [Link.withdrawFor]

@[simp] theorem withdrawFor_yields (l : Link) (m : Membership) : (l.withdrawFor m).yields = l.yields := by
  cases m <;> simp [Link.withdrawFor]

@[simp] theorem withdrawFor_txDrop (l : Link) (m : Membership) : (l.withdrawFor m).txDrop = l.txDrop := by
  cases m <;> simp [Link.withdrawFor]

/-- The withdrawals of R24, by the state entered. -/
theorem withdrawFor_qBeacon (l : Link) (m : Membership) :
    (l.withdrawFor m).qBeacon = if m = .joining ∨ m = .active ∨ m = .draining then l.qBeacon else none := by
  cases m <;> simp [Link.withdrawFor]

/-- The withdrawals of R24, by the state entered. -/
theorem withdrawFor_qPlan (l : Link) (m : Membership) :
    (l.withdrawFor m).qPlan = if m = .detached ∨ m = .listen then none else l.qPlan := by
  cases m <;> simp [Link.withdrawFor]

/-! ### enterState -/

/-- A state other than JOINING brings the withdrawals of R24 alone. -/
@[simp] theorem enterState_of_ne {m : Membership} (l : Link) (h : m ≠ .joining) :
    l.enterState m = l.withdrawFor m := by
  simp [Link.enterState, h]

/-- JOINING takes the beacon point and nothing else (R37, R91). -/
@[simp] theorem enterState_joining (l : Link) : l.enterState .joining = { l with beaconPoint := none } := rfl

end Sys2Proof.Machine
end

