-- ==== Sys2Proof/Laws/Gate.lean ====
section
/-! SUPPORT. Everything that a latch, the monitor's work at a phase point, and a phase point can do (R139, R161, R166). -/

namespace Sys2Proof.Machine
open Sys2Proof.Safety

/-- A latch taken while not latched (R166). -/
theorem latch_first {o : Origin} {g : Bool} {s : State} (h : s.mon.latch = none) :
    latch o g s = moveTo .faulted (if inGroup s.member.state then
      { raise .faultLatched { s with mon := s.mon.takeLatch o } with link := s.link.requestFault ⟨o, g⟩ }
      else raise .faultLatched { s with mon := s.mon.takeLatch o }) := by
  simp [latch, h]

/-- A latch leaves the history that an entry of its instant is judged by (R167). -/
@[simp] theorem standing_takeLatch (m : Monitor) (o : Origin) : (m.takeLatch o).standing = m.standing := by
  simp [Monitor.standing, Monitor.takeLatch]

/-- A tick leaves only the history itself to judge by (R167). -/
@[simp] theorem standing_tick (m : Monitor) : m.tick.standing = m.history := rfl

/-- A second latch only counts (R167). -/
theorem latch_second {o : Origin} {g : Bool} {s : State} (h : s.mon.latch.isSome = true) :
    latch o g s = { s with mon := s.mon.secondLatch } := by
  simp [latch, h]

/-- Without an escalation the ended cycle's entry joins the history, and nothing else changes (R161, R164). -/
theorem enterCycle_calm {c : Image} {s : State} (h : ¬Escalating c s) :
    enterCycle c s = { s with mon := { s.mon with history := joinHistory s.mon.history s.mon.entry } } := by
  unfold Escalating at h
  simp only [enterCycle, if_neg h]

/-- An escalation latches on top of it (R165). -/
theorem enterCycle_escalating {c : Image} {s : State} (h : Escalating c s) :
    enterCycle c s = latch .escalate (escalationTrip c s.mon.entry)
      { s with mon := { s.mon with history := joinHistory s.mon.history s.mon.entry } } := by
  unfold Escalating at h
  simp only [enterCycle, if_pos h]

/-- The monitor after steps 2 and 3 of R161. -/
theorem endForces_mon (c : Image) (live : Bool) (s : State) :
    (endForces c live s).mon = { s.mon with
      a := s.mon.a.atPhasePoint c.flta live
      b := s.mon.b.atPhasePoint c.fltb live
      emptied := []
      cutForce := s.mon.a.cutting c.flta || s.mon.b.cutting c.fltb
      cutCycles := if (s.mon.a.cutting c.flta || s.mon.b.cutting c.fltb) && live then countUp s.mon.cutCycles
        else s.mon.cutCycles } := by
  unfold endForces
  dsimp only
  split_ifs <;> rfl

/-- The events of steps 2 and 3 of R161. -/
theorem endForces_port (c : Image) (live : Bool) (s : State) :
    (endForces c live s).port =
      if (s.mon.a.cutting c.flta || s.mon.b.cutting c.fltb) && live then s.port.raise .cut else s.port := by
  unfold endForces
  dsimp only
  split_ifs <;> rfl

/-- Steps 2 and 3 of R161 change the monitor and the port alone. -/
theorem endForces_frame (c : Image) (live : Bool) (s : State) :
    endForces c live s = { s with mon := (endForces c live s).mon, port := (endForces c live s).port } := by
  unfold endForces
  dsimp only
  split_ifs <;> rfl

/-- The demand is taken (R145). -/
theorem takeDemand_eq (s : State) : takeDemand s = { s with
    gen := s.gen.take
    port := if s.gen.ceiling < s.gen.staged.toNat then s.port.raise .demandClipped else s.port } := by
  unfold takeDemand
  dsimp only
  split_ifs <;> rfl

/-- The generator after a phase point (R139, R141, R145, R147, R153). -/
def genAfter (c : Image) (active live : Bool) (g : Gen) : Gen :=
  ((g.take.walk c).begin live).mark active

/-- What follows the demand changes the generator and the monitor alone when the ended cycle does not escalate, but for
the cut of a cycle that begins with a CUT line ASSERTED (R139, R161). -/
theorem beginCycle_calm {c : Image} {wasHeld : Bool} {s : State} (h : s.gen.kind = none ∨ ¬Escalating c s) :
    beginCycle c wasHeld s = endForces c (s.member.state == .active && !wasHeld) { s with
      gen := ((s.gen.walk c).begin (s.member.state == .active && !wasHeld)).mark (s.member.state == .active)
      mon := { s.mon with
        history := (if s.gen.kind.isSome then joinHistory s.mon.history s.mon.entry else s.mon.history) } } := by
  unfold beginCycle notice
  by_cases hk : s.gen.kind.isSome = true
  · have he : ¬Escalating c s := h.resolve_left fun hn => by simp [hn] at hk
    simp only [hk, if_true]
    rw [enterCycle_calm]
    exact he
  · simp only [hk]
    rfl

/-- A phase point without an escalation changes the generator, the monitor and the port alone. -/
theorem takePhasePoint_calm {c : Image} {wasHeld : Bool} {s : State} (h : s.gen.kind = none ∨ ¬Escalating c s) :
    takePhasePoint c wasHeld s = endForces c (s.member.state == .active && !wasHeld) { s with
      gen := genAfter c (s.member.state == .active) (s.member.state == .active && !wasHeld) s.gen
      mon := { s.mon with history := (if s.gen.kind.isSome then joinHistory s.mon.history s.mon.entry else s.mon.history) }
      port := if s.gen.ceiling < s.gen.staged.toNat then s.port.raise .demandClipped else s.port } := by
  unfold takePhasePoint
  rw [takeDemand_eq, beginCycle_calm]
  · rfl
  · exact h

/-- A phase point that ends no cycle while both lines are RELEASED: the demand, the walk and the new cycle, and no event
but DEMAND_CLIPPED (R140, R145, R161). -/
theorem takePhasePoint_first {c : Image} {wasHeld : Bool} {s : State} (hk : s.gen.kind = none)
    (ha : s.mon.a.asserted = false) (hb : s.mon.b.asserted = false) :
    takePhasePoint c wasHeld s = { s with
      gen := genAfter c (s.member.state == .active) (s.member.state == .active && !wasHeld) s.gen
      mon := { s.mon with
        a := s.mon.a.atPhasePoint c.flta (s.member.state == .active && !wasHeld)
        b := s.mon.b.atPhasePoint c.fltb (s.member.state == .active && !wasHeld)
        cutForce := false
        emptied := [] }
      port := if s.gen.ceiling < s.gen.staged.toNat then s.port.raise .demandClipped else s.port } := by
  rw [takePhasePoint_calm (.inl hk), endForces_frame]
  simp [endForces_mon, endForces_port, LineState.cutting, hk, ha, hb]

@[simp] theorem endForces_timer (c : Image) (l : Bool) (s : State) : (endForces c l s).timer = s.timer := by
  unfold endForces; dsimp only; split_ifs <;> rfl

@[simp] theorem endForces_link (c : Image) (l : Bool) (s : State) : (endForces c l s).link = s.link := by
  unfold endForces; dsimp only; split_ifs <;> rfl

@[simp] theorem endForces_roster (c : Image) (l : Bool) (s : State) : (endForces c l s).roster = s.roster := by
  unfold endForces; dsimp only; split_ifs <;> rfl

@[simp] theorem endForces_align (c : Image) (l : Bool) (s : State) : (endForces c l s).align = s.align := by
  unfold endForces; dsimp only; split_ifs <;> rfl

@[simp] theorem endForces_member (c : Image) (l : Bool) (s : State) : (endForces c l s).member = s.member := by
  unfold endForces; dsimp only; split_ifs <;> rfl

@[simp] theorem endForces_plan (c : Image) (l : Bool) (s : State) : (endForces c l s).plan = s.plan := by
  unfold endForces; dsimp only; split_ifs <;> rfl

@[simp] theorem endForces_gen (c : Image) (l : Bool) (s : State) : (endForces c l s).gen = s.gen := by
  unfold endForces; dsimp only; split_ifs <;> rfl

@[simp] theorem endForces_line (c : Image) (l : Bool) (s : State) : (endForces c l s).line = s.line := by
  unfold endForces; dsimp only; split_ifs <;> rfl

@[simp] theorem latch_timer (o : Origin) (g : Bool) (s : State) : (latch o g s).timer = s.timer := by
  unfold latch; split_ifs <;> rfl

@[simp] theorem latch_roster (o : Origin) (g : Bool) (s : State) : (latch o g s).roster = s.roster := by
  unfold latch; split_ifs <;> rfl

@[simp] theorem latch_align (o : Origin) (g : Bool) (s : State) : (latch o g s).align = s.align := by
  unfold latch; split_ifs <;> rfl

@[simp] theorem latch_line (o : Origin) (g : Bool) (s : State) : (latch o g s).line = s.line := by
  unfold latch; split_ifs <;> rfl

/-- What a first latch does to the fields it changes (R166, R102). -/
theorem latch_first_member {o : Origin} {g : Bool} {s : State} (h : s.mon.latch = none) :
    (latch o g s).member = s.member.enter .faulted := by
  rw [latch_first h]; split_ifs <;> rfl

theorem latch_first_mon {o : Origin} {g : Bool} {s : State} (h : s.mon.latch = none) :
    (latch o g s).mon = s.mon.takeLatch o := by
  rw [latch_first h]; split_ifs <;> rfl

theorem latch_first_port {o : Origin} {g : Bool} {s : State} (h : s.mon.latch = none) :
    (latch o g s).port = s.port.raise .faultLatched := by
  rw [latch_first h]; split_ifs <;> rfl

theorem latch_first_link {o : Origin} {g : Bool} {s : State} (h : s.mon.latch = none) :
    (latch o g s).link =
      (if inGroup s.member.state then s.link.requestFault ⟨o, g⟩ else s.link).withdrawFor .faulted := by
  rw [latch_first h]; split_ifs <;> rfl

theorem latch_first_plan {o : Origin} {g : Bool} {s : State} (h : s.mon.latch = none) :
    (latch o g s).plan = if s.member.state = .active then s.plan.leaveActive else s.plan := by
  rw [latch_first h]; split_ifs <;> simp_all

theorem latch_first_gen {o : Origin} {g : Bool} {s : State} (h : s.mon.latch = none) :
    (latch o g s).gen = if s.member.state = .active then s.gen.leaveActive else s.gen := by
  rw [latch_first h]; split_ifs <;> simp_all

/-- What follows the demand at a phase point whose ended cycle escalates (R161, R165). -/
theorem beginCycle_escalating {c : Image} {wasHeld : Bool} {s : State} (hk : s.gen.kind.isSome = true)
    (h : Escalating c s) :
    beginCycle c wasHeld s = endForces c (s.member.state == .active && !wasHeld)
      (latch .escalate (escalationTrip c s.mon.entry) { s with
        gen := ((s.gen.walk c).begin (s.member.state == .active && !wasHeld)).mark (s.member.state == .active)
        mon := { s.mon with history := joinHistory s.mon.history s.mon.entry } }) := by
  unfold beginCycle notice
  simp only [hk, if_true]
  rw [enterCycle_escalating]
  exact h

/-- A phase point whose ended cycle escalates (R161, R165). -/
theorem takePhasePoint_escalating {c : Image} {wasHeld : Bool} {s : State} (hk : s.gen.kind.isSome = true)
    (h : Escalating c s) :
    takePhasePoint c wasHeld s = endForces c (s.member.state == .active && !wasHeld)
      (latch .escalate (escalationTrip c s.mon.entry) { s with
        gen := genAfter c (s.member.state == .active) (s.member.state == .active && !wasHeld) s.gen
        mon := { s.mon with history := joinHistory s.mon.history s.mon.entry }
        port := if s.gen.ceiling < s.gen.staged.toNat then s.port.raise .demandClipped else s.port }) := by
  unfold takePhasePoint
  rw [takeDemand_eq, beginCycle_escalating]
  · rfl
  · exact hk
  · exact h

end Sys2Proof.Machine
end

