-- ==== Sys2Proof/Laws/PerInstr.lean ====
section
/-! SUPPORT. What being well formed says of the operands of every command. -/

namespace Sys2Proof.Laws.Operands

/-- A piece of a transaction opens, closes or clocks something, and one that opens begins as its row does. -/
def clocks (header : List Byte) (x : Xfer) : Prop :=
  (x.opens = true ∨ x.closes = true ∨ x.falls = true ∨ x.bits ≠ []) ∧
    (x.opens = true → Machine.agrees (Machine.byteBits header) x.bits = true)

/-- A bus clear that leads to the address phase took at most nine pulses. -/
def clears : AttemptFailure → Prop
  | .stuckLow => True
  | .noAckWriteAddress pulses => pulses ≤ 9
  | .noAckWordAddress pulses => pulses ≤ 9
  | .noAckReadAddress pulses => pulses ≤ 9

/-- The operands of a command lie within the ranges that the rules give them. -/
def inRange : Instr → Prop
  | .powerOn => True
  | .resetPin => True
  | .loadStart => True
  | .attemptFailed why => clears why
  | .retryWaitEnd => True
  | .imageCheck pulses image => pulses ≤ 9 ∧ image.length = 32
  | .cycleBoundary order => order.Nodup
  | .trimWindowEnd => True
  | .silenceLimit _ => True
  | .beaconPoint => True
  | .planIssue => True
  | .planApply => True
  | .listenWindowEnd => True
  | .joinWindowEnd => True
  | .drainWindowEnd => True
  | .launch => True
  | .yieldAt y => 1 ≤ y.bit ∧ y.bit ≤ 76 ∧ y.bit + y.rest.length ≤ 76
  | .lineFault bit => bit ≤ 76
  | .frameComplete => True
  | .enterHunt => True
  | .beacon _ _ => True
  | .plan _ _ => True
  | .fault _ _ => True
  | .leaveFrame _ _ => True
  | .phasePoint => True
  | .heldPhasePoint => True
  | .intervalEnd => True
  | .markEnd => True
  | .lineSample _ _ => True
  | .statusRead x => clocks [0x01#8] x
  | .alignRead x => clocks [0x02#8] x
  | .countersRead x => clocks [0x03#8] x
  | .countersReadWithClear x => clocks [0x83#8] x
  | .rosterRead x => clocks [0x04#8] x
  | .eventsReadAndClear x => clocks [0x05#8] x
  | .demandWrite x => clocks [0x11#8] x
  | .alertMaskWrite x => clocks [0x12#8] x
  | .undefinedRequest code x => clocks [code] x ∧ (code ∉ WellFormed.requestCodes ∨ code = 0x21#8)
  | .join x => clocks [0x21#8, 0x01#8] x
  | .leave x => clocks [0x21#8, 0x02#8] x
  | .clearFault x => clocks [0x21#8, 0x03#8] x
  | .restart x => clocks [0x21#8, 0x04#8] x
  | .sofEdge bits => bits.head? ≠ some true ∧ bits.length ≤ 77
  | .startBitGlitch => True
  | .receivedFrameError bits => bits.head? = some false ∧ bits.length ≤ 77
  | .clashFrame _ => True

/-- A well-formed command has its operands in range. -/
def Statement (i : Instr) : Prop :=
  i.wellFormed = true → inRange i

theorem clocks_of_piece {header : List Byte} {x : Xfer} (h : WellFormed.piece header x = true) : clocks header x := by
  simp only [WellFormed.piece, Bool.and_eq_true, Bool.or_eq_true] at h
  refine ⟨by simpa [or_assoc] using h.1, fun ho => ?_⟩
  simpa [ho] using h.2

/-- Bits that show an error are no longer than the longest frame. -/
theorem length_of_errorBits {bits : List Bool} (h : WellFormed.errorBits bits = true) :
    bits.head? = some false ∧ bits.length ≤ 77 := by
  unfold WellFormed.errorBits at h
  split at h
  · simp only [Bool.and_eq_true, beq_iff_eq] at h
    refine ⟨h.1, ?_⟩
    have hk : Machine.kindBits (Machine.sampledKind bits) ≤ 77 := by
      cases Machine.sampledKind bits <;> decide
    omega
  · simp at h
  · simp at h

theorem powerOn : Statement .powerOn := fun _ => trivial

theorem resetPin : Statement .resetPin := fun _ => trivial

theorem loadStart : Statement .loadStart := fun _ => trivial

theorem attemptFailed (why : AttemptFailure) : Statement (.attemptFailed why) := by
  intro h
  cases why <;> simp_all [Instr.wellFormed, WellFormed.attemptFailed, inRange, clears]

theorem retryWaitEnd : Statement .retryWaitEnd := fun _ => trivial

theorem imageCheck (pulses : Nat) (image : List Byte) : Statement (.imageCheck pulses image) := by
  intro h
  simpa [Instr.wellFormed, WellFormed.imageCheck, inRange] using h

theorem cycleBoundary (order : List BoundaryWork) : Statement (.cycleBoundary order) := by
  intro h
  simpa [Instr.wellFormed, inRange] using h

theorem trimWindowEnd : Statement .trimWindowEnd := fun _ => trivial

theorem silenceLimit (j : Station) : Statement (.silenceLimit j) := fun _ => trivial

theorem beaconPoint : Statement .beaconPoint := fun _ => trivial

theorem planIssue : Statement .planIssue := fun _ => trivial

theorem planApply : Statement .planApply := fun _ => trivial

theorem listenWindowEnd : Statement .listenWindowEnd := fun _ => trivial

theorem joinWindowEnd : Statement .joinWindowEnd := fun _ => trivial

theorem drainWindowEnd : Statement .drainWindowEnd := fun _ => trivial

theorem launch : Statement .launch := fun _ => trivial

theorem yieldAt (y : YieldSample) : Statement (.yieldAt y) := by
  intro h
  simpa [Instr.wellFormed, WellFormed.yieldSample, inRange, and_assoc] using h

theorem lineFault (bit : Nat) : Statement (.lineFault bit) := by
  intro h
  simpa [Instr.wellFormed, WellFormed.lineFaultBit, inRange] using h

theorem frameComplete : Statement .frameComplete := fun _ => trivial

theorem enterHunt : Statement .enterHunt := fun _ => trivial

theorem beacon (src : Station) (b : DeliveredBeacon) : Statement (.beacon src b) := fun _ => trivial

theorem plan (src : Station) (body : PlanRecord) : Statement (.plan src body) := fun _ => trivial

theorem fault (src : Station) (body : FaultBody) : Statement (.fault src body) := fun _ => trivial

theorem leaveFrame (src : Station) (body : LeaveBody) : Statement (.leaveFrame src body) := fun _ => trivial

theorem phasePoint : Statement .phasePoint := fun _ => trivial

theorem heldPhasePoint : Statement .heldPhasePoint := fun _ => trivial

theorem intervalEnd : Statement .intervalEnd := fun _ => trivial

theorem markEnd : Statement .markEnd := fun _ => trivial

theorem lineSample (line : FaultLine) (pin : Level) : Statement (.lineSample line pin) := fun _ => trivial

theorem statusRead (x : Xfer) : Statement (.statusRead x) := fun h => clocks_of_piece h

theorem alignRead (x : Xfer) : Statement (.alignRead x) := fun h => clocks_of_piece h

theorem countersRead (x : Xfer) : Statement (.countersRead x) := fun h => clocks_of_piece h

theorem countersReadWithClear (x : Xfer) : Statement (.countersReadWithClear x) := fun h => clocks_of_piece h

theorem rosterRead (x : Xfer) : Statement (.rosterRead x) := fun h => clocks_of_piece h

theorem eventsReadAndClear (x : Xfer) : Statement (.eventsReadAndClear x) := fun h => clocks_of_piece h

theorem demandWrite (x : Xfer) : Statement (.demandWrite x) := fun h => clocks_of_piece h

theorem alertMaskWrite (x : Xfer) : Statement (.alertMaskWrite x) := fun h => clocks_of_piece h

theorem undefinedRequest (code : Byte) (x : Xfer) : Statement (.undefinedRequest code x) := by
  intro h
  simp only [Instr.wellFormed, WellFormed.undefinedRequest, Bool.and_eq_true, Bool.or_eq_true] at h
  refine ⟨clocks_of_piece h.1, ?_⟩
  rcases h.2 with h | h
  · left; simpa using h
  · right; simpa using h.1

theorem join (x : Xfer) : Statement (.join x) := fun h => clocks_of_piece h

theorem leave (x : Xfer) : Statement (.leave x) := fun h => clocks_of_piece h

theorem clearFault (x : Xfer) : Statement (.clearFault x) := fun h => clocks_of_piece h

theorem restart (x : Xfer) : Statement (.restart x) := fun h => clocks_of_piece h

theorem sofEdge (bits : List Bool) : Statement (.sofEdge bits) := by
  intro h
  simpa [Instr.wellFormed, WellFormed.edgeBits, inRange] using h

theorem startBitGlitch : Statement .startBitGlitch := fun _ => trivial

theorem receivedFrameError (bits : List Bool) : Statement (.receivedFrameError bits) := fun h => length_of_errorBits h

theorem clashFrame (body : FrameBody) : Statement (.clashFrame body) := fun _ => trivial

end Sys2Proof.Laws.Operands
end

