-- ==== Sys2Proof/Laws/Port.lean ====
section
/-! SUPPORT. The Control Port byte by byte: what eight periods of CP_SCK do (R185). -/

namespace Sys2Proof.Machine

/-! ### Single edges -/

/-- What happens as a byte begins leaves the transaction and its bits as they are. -/
theorem beginWork_port (k : Nat) (s : State) : (beginWork k s).port.txn = s.port.txn ∧
    (beginWork k s).port.request = s.port.request ∧ (beginWork k s).port.sdi = s.port.sdi ∧
    (beginWork k s).port.sdo = s.port.sdo := by
  have hclear : ∀ (u : State) (i : Nat), (clearCounter u i).port = u.port := by
    intro u i
    unfold clearCounter
    split <;> rfl
  unfold beginWork
  split <;> (repeat split) <;> simp [hclear, copyCounter, copyEntry]

@[simp] theorem beginWork_txn (k : Nat) (s : State) : (beginWork k s).port.txn = s.port.txn := (beginWork_port k s).1

@[simp] theorem beginWork_request (k : Nat) (s : State) : (beginWork k s).port.request = s.port.request :=
  (beginWork_port k s).2.1

@[simp] theorem beginWork_sdi (k : Nat) (s : State) : (beginWork k s).port.sdi = s.port.sdi := (beginWork_port k s).2.2.1

@[simp] theorem beginWork_sdo (k : Nat) (s : State) : (beginWork k s).port.sdo = s.port.sdo := (beginWork_port k s).2.2.2

/-- The state with these bits shifted so far. -/
def withBits (sdi sdo : List Bool) (s : State) : State :=
  { s with port := { s.port with sdi := sdi, sdo := sdo } }

@[simp] theorem withBits_sdi (x y : List Bool) (s : State) : (withBits x y s).port.sdi = x := rfl

@[simp] theorem withBits_sdo (x y : List Bool) (s : State) : (withBits x y s).port.sdo = y := rfl

@[simp] theorem withBits_txn (x y : List Bool) (s : State) : (withBits x y s).port.txn = s.port.txn := rfl

@[simp] theorem withBits_withBits (x y x' y' : List Bool) (s : State) :
    withBits x y (withBits x' y' s) = withBits x y s := rfl

/-- The byte shifted out does not depend on the bits shifted so far. -/
@[simp] theorem outByte_withBits (k : Nat) (x y : List Bool) (s : State) : outByte k (withBits x y s) = outByte k s := rfl

/-- A falling edge whose bit stands on CP_SDO already presents none. -/
theorem fallEdge_presented {s : State} (h : s.port.sdi.length < s.port.sdo.length) : fallEdge s = s := by
  unfold fallEdge
  split
  · rw [if_pos h]
  · rfl
  · rfl

/-- A falling edge inside a byte presents its next bit. -/
theorem fallEdge_inside {k : Nat} {s : State} (ht : s.port.txn = .opened k)
    (h : s.port.sdo.length = s.port.sdi.length) (hk : s.port.sdi.length % 8 ≠ 0) : fallEdge s = present s := by
  simp [fallEdge, ht, h, hk]

/-- A falling edge after a byte's last bit begins the next byte. -/
theorem fallEdge_next {k : Nat} {s : State} (ht : s.port.txn = .opened k) (hi : s.port.sdi.length = 8 * (k + 1))
    (ho : s.port.sdo.length = 8 * (k + 1)) :
    fallEdge s = present (beginWork (k + 1) { s with port := { s.port with txn := .opened (k + 1) } }) := by
  unfold fallEdge
  rw [ht]
  simp only
  rw [if_neg (by omega), if_pos ⟨by omega, by omega⟩]

/-- A rising edge inside a byte takes its bit. -/
theorem riseEdge_inside {k : Nat} {b : Bool} {s : State} (ht : s.port.txn = .opened k)
    (h : (s.port.sdi.length + 1) % 8 ≠ 0) : riseEdge b s = withBits (s.port.sdi ++ [b]) s.port.sdo s := by
  unfold riseEdge
  rw [ht]
  simp [h, withBits, ht]

/-- The rising edge of a byte's last bit completes the byte. -/
theorem riseEdge_last {k : Nat} {b : Bool} {s : State} (ht : s.port.txn = .opened k)
    (h : (s.port.sdi.length + 1) % 8 = 0) :
    riseEdge b s = completeWork k ((bytesOf (s.port.sdi ++ [b])).getLastD 0)
      (withBits (s.port.sdi ++ [b]) s.port.sdo s) := by
  unfold riseEdge
  rw [ht]
  simp [h, withBits, ht]

/-! ### Eight periods -/

/-- A period inside a byte. -/
theorem clockBit_inside {k i : Nat} {b : Bool} {s : State} (ht : s.port.txn = .opened k)
    (hi : s.port.sdi.length = 8 * k + i) (ho : s.port.sdo.length = 8 * k + i) (h0 : 0 < i) (h7 : i < 7) :
    clockBit s b = withBits (s.port.sdi ++ [b]) (s.port.sdo ++ [bitOf (outByte k s) i]) s := by
  unfold clockBit
  rw [fallEdge_inside ht (by omega) (by omega), riseEdge_inside (k := k) (by simpa using ht) (by simp; omega)]
  simp only [present, hi]
  rw [show (8 * k + i) / 8 = k by omega, show (8 * k + i) % 8 = i by omega]
  rfl

/-- The last period of a byte. -/
theorem clockBit_last {k : Nat} {b : Bool} {s : State} (ht : s.port.txn = .opened k)
    (hi : s.port.sdi.length = 8 * k + 7) (ho : s.port.sdo.length = 8 * k + 7) :
    clockBit s b = completeWork k ((bytesOf (s.port.sdi ++ [b])).getLastD 0)
      (withBits (s.port.sdi ++ [b]) (s.port.sdo ++ [bitOf (outByte k s) 7]) s) := by
  unfold clockBit
  rw [fallEdge_inside ht (by omega) (by omega), riseEdge_last (k := k) (by simpa using ht) (by simp; omega)]
  simp only [present, hi]
  rw [show (8 * k + 7) / 8 = k by omega, show (8 * k + 7) % 8 = 7 by omega]
  rfl

/-- Periods inside a byte. -/
theorem clock_inside {k : Nat} (bits : List Bool) {i : Nat} {s : State} (ht : s.port.txn = .opened k)
    (hi : s.port.sdi.length = 8 * k + i) (ho : s.port.sdo.length = 8 * k + i) (h0 : 0 < i)
    (h7 : i + bits.length ≤ 7) :
    bits.foldl clockBit s = withBits (s.port.sdi ++ bits)
      (s.port.sdo ++ ((natBits 8 (outByte k s).toNat).drop i).take bits.length) s := by
  induction bits generalizing i s with
  | nil => simp [withBits]
  | cons b bits ih =>
    simp only [List.length_cons] at h7
    have hd : (natBits 8 (outByte k s).toNat).drop i =
        bitOf (outByte k s) i :: (natBits 8 (outByte k s).toNat).drop (i + 1) := by
      rw [List.drop_eq_getElem_cons (by simp; omega)]
      unfold bitOf
      rw [List.getD_eq_getElem _ _ (by simp; omega)]
    have hn := ih (i := i + 1) (s := withBits (s.port.sdi ++ [b]) (s.port.sdo ++ [bitOf (outByte k s) i]) s) ht
      (by simp; omega) (by simp; omega) (by omega) (by omega)
    rw [List.foldl_cons, clockBit_inside ht hi ho h0 (by omega), hn, hd]
    simp

/-- The periods of a byte after its first. -/
theorem clock_rest {k : Nat} {b6 b5 b4 b3 b2 b1 b0 : Bool} {s : State} (ht : s.port.txn = .opened k)
    (hi : s.port.sdi.length = 8 * k + 1) (ho : s.port.sdo.length = 8 * k + 1) :
    [b6, b5, b4, b3, b2, b1, b0].foldl clockBit s =
      completeWork k ((bytesOf (s.port.sdi ++ [b6, b5, b4, b3, b2, b1, b0])).getLastD 0)
        (withBits (s.port.sdi ++ [b6, b5, b4, b3, b2, b1, b0])
          (s.port.sdo ++ ((natBits 8 (outByte k s).toNat).drop 1)) s) := by
  rw [show [b6, b5, b4, b3, b2, b1, b0] = [b6, b5, b4, b3, b2, b1] ++ [b0] from rfl, List.foldl_append,
    clock_inside _ ht hi ho (by omega) (by simp)]
  change clockBit _ b0 = _
  rw [clockBit_last (k := k) (s := withBits _ _ s) (by rw [withBits_txn]; exact ht) (by simp; omega) (by simp; omega)]
  simp only [withBits_sdi, withBits_sdo, withBits_withBits, outByte_withBits, List.append_assoc]
  rfl

/-- A byte that is complete is the last complete byte. -/
theorem lastByte {bits : List Bool} {k : Nat} (h : bits.length = 8 * k) (b : Byte) :
    (bytesOf (bits ++ natBits 8 b.toNat)).getLastD 0 = b := by
  rw [bytesOf_append h, ← List.append_nil (natBits 8 b.toNat), bytesOf_natBits]
  simp [bytesOf]

/-- Byte 0: its first bit stands on CP_SDO from the fall of CP_CS# on (R185, R186). -/
theorem clock_firstByte {b : Byte} {s : State} (ht : s.port.txn = .opened 0) (hi : s.port.sdi = [])
    (ho : s.port.sdo = [bitOf (outByte 0 s) 0]) :
    (byteBits [b]).foldl clockBit s =
      completeWork 0 b (withBits (byteBits [b]) (byteBits [outByte 0 s]) s) := by
  have hb : byteBits [b] = b.toNat.testBit 7 :: [b.toNat.testBit 6, b.toNat.testBit 5, b.toNat.testBit 4,
      b.toNat.testBit 3, b.toNat.testBit 2, b.toNat.testBit 1, b.toNat.testBit 0] := rfl
  have h1 : clockBit s (b.toNat.testBit 7) = withBits [b.toNat.testBit 7] s.port.sdo s := by
    unfold clockBit
    rw [fallEdge_presented (by simp [hi, ho]), riseEdge_inside ht (by simp [hi]), hi]
    rfl
  rw [hb, List.foldl_cons, h1, clock_rest (k := 0) (s := withBits _ _ s) (by rw [withBits_txn]; exact ht)
    (by simp) (by simp [ho])]
  have hl := lastByte (bits := []) (k := 0) rfl b
  simp only [withBits_sdi, withBits_sdo, withBits_withBits, outByte_withBits, ho]
  change completeWork 0 ((bytesOf ([] ++ natBits 8 b.toNat)).getLastD 0) _ = _
  rw [hl]
  rfl

/-- Every later byte (R185). -/
theorem clock_nextByte {k : Nat} {b : Byte} {s : State} (ht : s.port.txn = .opened k)
    (hi : s.port.sdi.length = 8 * (k + 1)) (ho : s.port.sdo.length = 8 * (k + 1)) :
    let s1 := beginWork (k + 1) { s with port := { s.port with txn := .opened (k + 1) } }
    (byteBits [b]).foldl clockBit s = completeWork (k + 1) b
      (withBits (s.port.sdi ++ byteBits [b]) (s.port.sdo ++ byteBits [outByte (k + 1) s1]) s1) := by
  intro s1
  have hb : byteBits [b] = b.toNat.testBit 7 :: [b.toNat.testBit 6, b.toNat.testBit 5, b.toNat.testBit 4,
      b.toNat.testBit 3, b.toNat.testBit 2, b.toNat.testBit 1, b.toNat.testBit 0] := rfl
  have hs1 : s1.port.sdi = s.port.sdi ∧ s1.port.sdo = s.port.sdo ∧ s1.port.txn = .opened (k + 1) := by
    refine ⟨?_, ?_, ?_⟩ <;> simp [s1]
  have h1 : clockBit s (b.toNat.testBit 7) =
      withBits (s.port.sdi ++ [b.toNat.testBit 7]) (s.port.sdo ++ [bitOf (outByte (k + 1) s1) 0]) s1 := by
    unfold clockBit
    rw [fallEdge_next ht hi ho]
    change riseEdge _ (present s1) = _
    rw [riseEdge_inside (s := present s1) hs1.2.2 (by simp [hs1.1, hi])]
    change withBits (s1.port.sdi ++ _) (s1.port.sdo ++ [bitOf (outByte (s1.port.sdi.length / 8) s1)
      (s1.port.sdi.length % 8)]) s1 = _
    rw [hs1.1, hs1.2.1, hi, show 8 * (k + 1) / 8 = k + 1 by omega, show 8 * (k + 1) % 8 = 0 by omega]
  rw [hb, List.foldl_cons, h1, clock_rest (k := k + 1) (s := withBits _ _ s1)
    (by rw [withBits_txn]; exact hs1.2.2) (by simp [hi]) (by simp [ho])]
  simp only [withBits_sdi, withBits_sdo, withBits_withBits, outByte_withBits, List.append_assoc, List.cons_append,
    List.nil_append]
  have hl := lastByte hi b
  change completeWork (k + 1) ((bytesOf (s.port.sdi ++ natBits 8 b.toNat)).getLastD 0) _ = _
  rw [hl]
  rfl

end Sys2Proof.Machine
end

