-- ==== Sys2Proof/Laws/Time.lean ====
section
/-! SUPPORT. The passing of time: that nothing is taken from a settled state, what the station can do by itself, and what
a timed step and a delivery do from the states in which statements take them. -/

namespace Sys2Proof.Machine

open Sys2Proof.Safety

/-! ### Tables -/

/-- A table is what its places hold. -/
theorem tabulate_get {α : Type} (v : PerStation α) : tabulate (fun j => v[j]) = v := by
  ext i hi
  have : i = 0 ∨ i = 1 ∨ i = 2 ∨ i = 3 ∨ i = 4 ∨ i = 5 ∨ i = 6 ∨ i = 7 ∨ i = 8 ∨ i = 9 ∨ i = 10 ∨ i = 11 ∨ i = 12 ∨
      i = 13 ∨ i = 14 ∨ i = 15 := by omega
  rcases this with h | h | h | h | h | h | h | h | h | h | h | h | h | h | h | h <;> subst h <;> rfl

/-- Place j of a tabulated function is its value at j. -/
theorem getElem_tabulate {α : Type} (f : Station → α) (j : Station) : (tabulate f)[j] = f j := by
  revert j; intro j
  fin_cases j <;> rfl

/-- Place k after place j was replaced. -/
theorem getElem_putAt {α : Type} (v : PerStation α) (j k : Station) (x : α) :
    (putAt v j x)[k] = if k = j then x else v[k] := by
  unfold putAt
  rw [getElem_tabulate]

/-- Place k of a roster whose peers changed. -/
theorem getElem_mapPeers (own k : Station) (f : Station → Entry → Entry) (r : PerStation Entry) :
    (mapPeers own f r)[k] = if k = own then r[k] else f k r[k] := by
  unfold mapPeers
  rw [getElem_tabulate]

/-! ### Nothing is due in a settled state -/

/-- An entry whose silence limit is not due passes the test as it is (R53). -/
theorem testSilence_of_not_due (c : Image) (s : State) (j : Station) (hj : j ≠ c.station)
    (h : silenceDue c s j = false) : (s.roster[j]).testSilence c (inCurrent s j) = s.roster[j] := by
  unfold silenceDue at h
  unfold Entry.testSilence
  split
  · rename_i hle
    cases hc : silenceChange (inCurrent s j) (s.roster[j]).presence with
    | none => rfl
    | some p =>
      rw [hc, decide_eq_true hle] at h
      simp [hj] at h
  · rfl

/-- No silence limit is taken from a settled state. -/
theorem takeSilences_of_settled {c : Image} {s : State} (h : Settled c s) : takeSilences c s = s := by
  have hr : mapPeers c.station (fun j e => e.testSilence c (inCurrent s j)) s.roster = s.roster := by
    conv => rhs; rw [← tabulate_get s.roster]
    unfold mapPeers
    congr 1; funext j
    split
    · rfl
    · rename_i hj; exact testSilence_of_not_due c s j hj (h.silence j)
  unfold takeSilences
  rw [hr]

/-- No apply is taken from a settled state. -/
theorem takeApply_of_settled {c : Image} {s : State} (h : Settled c s) : takeApply c s = s := by
  have ha := h.apply
  unfold applyDue at ha
  unfold takeApply
  cases hp : s.plan.pending with
  | none => rfl
  | some r =>
    rw [hp] at ha
    have : ¬ r.effSeq = s.timer.seq := by simpa using ha
    simp [this]

/-- No work of a boundary is left exactly in a settled state (log 4). -/
theorem worksDue_eq_false (c : Image) (s : State) : worksDue c s = false ↔ Settled c s := by
  have hs : (silenceSteps c s).any OwnStep.due = false ↔ ∀ j, silenceDue c s j = false := by
    simp only [silenceSteps, List.any_map, Function.comp_def, List.any_eq_false, Bool.not_eq_true]
    exact ⟨fun h j => h j (by revert j; decide), fun h j _ => h j⟩
  unfold worksDue boundaryWorks
  rw [List.any_append, Bool.or_eq_false_iff, hs]
  simp only [List.any_cons, List.any_nil, Bool.or_false, Bool.or_eq_false_iff]
  exact ⟨fun ⟨h1, h2, h3, h4, h5, h6, h7⟩ => ⟨h1, h2, h3, h4, h5, h6, h7⟩,
    fun ⟨h1, h2, h3, h4, h5, h6, h7⟩ => ⟨h1, h2, h3, h4, h5, h6, h7⟩⟩

/-! ### The own steps -/

/-- Everything that the station can do by itself at an instant: what holds of each kind of own step holds of all. -/
theorem ownSteps_cases {c : Image} {s : State} {P : OwnStep → Prop} {x : OwnStep} (h : x ∈ ownSteps c s)
    (boundary : P ⟨s.timer.atEnd, boundary c [], .cycleBoundary []⟩)
    (silence : ∀ j, P ⟨silenceDue c s j, takeSilence c j, .silenceLimit j⟩)
    (apply : P ⟨applyDue s, takeApply c, .planApply⟩)
    (listen : P ⟨listenDue c s, takeListenEnd c, .listenWindowEnd⟩)
    (joinEnd : P ⟨joinDue c s, takeJoinEnd c, .joinWindowEnd⟩)
    (drain : P ⟨drainDue c s, takeDrainEnd c, .drainWindowEnd⟩)
    (trim : P ⟨trimDue s, takeTrimEnd, .trimWindowEnd⟩)
    (issue : P ⟨issueDue s, takeIssue c, .planIssue⟩)
    (interval : P ⟨intervalDue c s, endInterval, .intervalEnd⟩)
    (phase : P ⟨phaseDue s, reachPhasePoint c, .phasePoint⟩)
    (held : P ⟨heldDue c s, takeHeld c, .heldPhasePoint⟩)
    (beacon : P ⟨beaconDue s, beaconNow, .beaconPoint⟩)
    (yield : P ⟨yieldDue c s, yieldNow c ⟨lastBit s, []⟩, .yieldAt ⟨lastBit s, []⟩⟩)
    (glitch : P ⟨glitchDue s, glitchNow, .startBitGlitch⟩)
    (error : P ⟨errorDue c s, frameErrorNow, .receivedFrameError s.link.rxBits⟩)
    (frame : ∀ f, frameEnded c s = some f → P ⟨true, fun t => deliver c f .beaconFirst t, frameCommand c f⟩)
    (complete : P ⟨completeDue c s, completeNow, .frameComplete⟩)
    (edge : P ⟨edgeDue s, takeEdge c [], .sofEdge []⟩)
    (hunt : P ⟨huntDue c s, enterHuntNow, .enterHunt⟩)
    (launch : P ⟨launchDue c s, launchNow c, .launch⟩)
    (sampleA : P ⟨sampleDue c .flta s, sampleNow c .flta s.mon.a.pin, .lineSample .flta s.mon.a.pin⟩)
    (sampleB : P ⟨sampleDue c .fltb s, sampleNow c .fltb s.mon.b.pin, .lineSample .fltb s.mon.b.pin⟩) : P x := by
  have hf : ∀ x ∈ (match frameEnded c s with
      | none => []
      | some f => [(⟨true, fun t => deliver c f .beaconFirst t, frameCommand c f⟩ : OwnStep)]), P x := by
    intro x hx
    split at hx
    · simp at hx
    · rename_i f hf
      simp only [List.mem_singleton] at hx
      exact hx ▸ frame f hf
  unfold ownSteps boundarySteps boundaryWorks silenceSteps gateSteps sampledSteps linkSteps lineSteps at h
  simp only [List.mem_append, List.mem_map, List.mem_cons, List.not_mem_nil, or_false] at h
  rcases h with ((((h | h | h) | h) | h | h) | h) | h
  · exact h ▸ boundary
  · obtain ⟨j, _, h⟩ := h
    exact h ▸ silence j
  · rcases h with h | h | h | h | h | h <;> subst h <;> assumption
  · rcases h with h | h | h | h <;> subst h <;> assumption
  · rcases h with h | h | h <;> subst h <;> assumption
  · exact hf x h
  · rcases h with h | h | h | h <;> subst h <;> assumption
  · rcases h with h | h <;> subst h <;> assumption

/-- The own step that is taken is one of them, and due. -/
theorem nextOwn_mem {c : Image} {s : State} {x : OwnStep} (h : nextOwn c s = some x) :
    x ∈ ownSteps c s ∧ x.due = true :=
  ⟨List.mem_of_find?_eq_some h, List.find?_some h⟩

/-- At the end of a cycle its boundary comes first. -/
theorem nextOwn_atEnd {c : Image} {s : State} (h : s.timer.atEnd = true) :
    nextOwn c s = some ⟨true, boundary c [], .cycleBoundary []⟩ := by
  unfold nextOwn ownSteps boundarySteps
  simp [h]

/-- Every own step leaves the loader and the waiting commands as they are. -/
theorem ownStep_keeps {c : Image} {s : State} {x : OwnStep} (h : x ∈ ownSteps c s) (t : State) :
    (x.act t).loader = t.loader ∧ (x.act t).pending = t.pending := by
  refine ownSteps_cases (P := fun x => (x.act t).loader = t.loader ∧ (x.act t).pending = t.pending) h ?_ ?_ ?_ ?_ ?_ ?_
    ?_ ?_ ?_ ?_ ?_ ?_ ?_ ?_ ?_ ?_ ?_ ?_ ?_ ?_ ?_ ?_ <;> intros <;> constructor <;> simp

theorem goOn_keeps (c : Image) (s : State) : (goOn c s).loader = s.loader ∧ (goOn c s).pending = s.pending := by
  unfold goOn
  split
  · rename_i x h
    exact ownStep_keeps (nextOwn_mem h).1 s
  · exact ⟨rfl, rfl⟩

@[simp] theorem goOn_loader (c : Image) (s : State) : (goOn c s).loader = s.loader := (goOn_keeps c s).1

@[simp] theorem goOn_pending (c : Image) (s : State) : (goOn c s).pending = s.pending := (goOn_keeps c s).2

/-! ### Timed commands -/

/-- What holds at the start and is kept by every own step and tick holds where a timed command stops to act. -/
theorem runTo_keeps {c : Image} {due possible : State → Bool} {P : State → Prop} (hgo : ∀ s, P s → P (goOn c s))
    {n : Nat} {s t : State} (hs : P s) (h : runTo c due possible n s = some t) : P t ∧ due t = true := by
  induction n generalizing s with
  | zero =>
    unfold runTo at h
    split at h
    · rename_i hd
      cases h
      exact ⟨hs, hd⟩
    · cases h
  | succ n ih =>
    unfold runTo at h
    split at h
    · rename_i hd
      cases h
      exact ⟨hs, hd⟩
    · split at h
      · exact ih (hgo s hs) h
      · cases h

/-- A command whose instant is now acts at once. -/
theorem runTo_now {c : Image} {due possible : State → Bool} {s : State} (h : due s = true) (n : Nat) :
    runTo c due possible n s = some s := by
  cases n <;> simp [runTo, h]

/-- What a timed command can do: it acts at an instant of its own, or changes nothing. -/
theorem reach_keeps {c : Image} {due possible : State → Bool} {act : State → State} {P : State → Prop}
    (hgo : ∀ s, P s → P (goOn c s)) (hact : ∀ s, due s = true → P s → P (act s)) {start s : State} (h0 : P start)
    (hs : P s) : P (reach c due possible act start s) := by
  unfold reach
  cases h : runTo c due possible horizon start with
  | none => exact hs
  | some t =>
    obtain ⟨ht, hd⟩ := runTo_keeps hgo h0 h
    exact hact t hd ht

/-- A command that finds its instant at the start acts there. -/
theorem reach_now {c : Image} {due possible : State → Bool} {act : State → State} {start s : State}
    (h : due start = true) : reach c due possible act start s = act start := by
  unfold reach
  rw [runTo_now h]

/-- A timed step at its own instant is taken as it is. -/
theorem timed_now {c : Image} {due possible : State → Bool} {act : State → State} {s : State} (h : due s = true) :
    timed c due possible act s = act s := reach_now h

/-- What a timed step can do. -/
theorem timed_keeps {c : Image} {due possible : State → Bool} {act : State → State} {P : State → Prop}
    (hgo : ∀ s, P s → P (goOn c s)) (hact : ∀ s, due s = true → P s → P (act s)) {s : State} (hs : P s) :
    P (timed c due possible act s) := reach_keeps hgo hact hs hs

/-- A received frame that a receiver follows already is taken at its own instant as it is. -/
theorem received_now {c : Image} {bits : List Bool} {due possible : State → Bool} {act : State → State} {s : State}
    (hr : s.link.rx = .receiving) (h : due s = true) : received c bits due possible act s = act s := by
  unfold received
  rw [if_neg (by simp [hr])]
  exact reach_now h

/-- What a received frame can do. -/
theorem received_keeps {c : Image} {bits : List Bool} {due possible : State → Bool} {act : State → State}
    {P : State → Prop} (hgo : ∀ s, P s → P (goOn c s)) (hact : ∀ s, due s = true → P s → P (act s))
    (hedge : ∀ s, P s → P (takeEdge c bits s)) {s : State} (hs : P s) : P (received c bits due possible act s) := by
  unfold received
  refine reach_keeps hgo hact ?_ hs
  split_ifs
  · exact hedge s hs
  · exact hs

/-- A frame at its end is due. -/
theorem frameDue_atEnd {c : Image} {f : Frame} {s : State} (h : AtFrameEnd c f s) : frameDue c f s = true := by
  have hw := (worksDue_eq_false c s).mpr h.settled
  have htx : (s.link.tx != .sending) = true := by simpa using h.tx
  simp [frameDue, frameEnded, h.bits, following, h.rx, htx, h.age, hw]

/-- A frame at its end is delivered as it is. -/
theorem takeFrame_atEnd {c : Image} {f : Frame} {order : BeaconOrder} {s : State} (h : AtFrameEnd c f s) :
    takeFrame c f order s = deliver c f order s := received_now h.rx (frameDue_atEnd h)

/-- A cycle at its end turns as it is. -/
theorem cycleBoundary_atEnd {c : Image} {order : List BoundaryWork} {s : State} (h : AtCycleEnd c s) :
    exec (.cycleBoundary order) s = .next (boundary c order s) := by
  simp only [exec, execCycleBoundary, State.configured]
  rw [show s.loader.config = some c from h.configured]
  exact congrArg _ (timed_now h.ended)

/-! ### The image in force -/

/-- A configured station does its own work. -/
theorem configured_some {c : Image} {s : State} (h : Configured c s) (f : Image → State) : s.configured f = f c := by
  unfold State.configured
  rw [show s.loader.config = some c from h]

/-- An unconfigured station does none. -/
theorem configured_none {s : State} (h : s.loader.config = none) (f : Image → State) : s.configured f = s := by
  unfold State.configured
  rw [h]

/-! ### The own clock is made of commands -/

/-- While a work of a boundary is due, the own step that comes next is of the boundary. -/
theorem nextOwn_of_worksDue {c : Image} {s : State} {x : OwnStep} (h : nextOwn c s = some x)
    (hw : worksDue c s = true) : x ∈ boundarySteps c s ++ boundaryWorks c s := by
  unfold nextOwn ownSteps at h
  simp only [List.append_assoc] at h
  rw [← List.append_assoc, List.find?_append] at h
  cases hf : (boundarySteps c s ++ boundaryWorks c s).find? OwnStep.due with
  | some y =>
    rw [hf] at h
    simp only [Option.some_or, Option.some.injEq] at h
    exact h ▸ List.mem_of_find?_eq_some hf
  | none =>
    rw [List.find?_eq_none] at hf
    obtain ⟨y, hy, hd⟩ := List.any_eq_true.mp hw
    exact absurd hd (hf y (List.mem_append_right _ hy))

/-- The delivery of a frame is no step of the boundary. -/
theorem frameCommand_not_boundary {c : Image} {s : State} {f : Frame} {a : State → State} {d : Bool} :
    (⟨d, a, frameCommand c f⟩ : OwnStep) ∉ boundarySteps c s ++ boundaryWorks c s := by
  intro h
  unfold boundarySteps boundaryWorks silenceSteps at h
  simp only [List.mem_append, List.mem_map, List.mem_cons, List.not_mem_nil, or_false, OwnStep.mk.injEq] at h
  have hf : ∀ i, frameCommand c f = i → i ≠ .cycleBoundary [] ∧ (∀ j, i ≠ .silenceLimit j) ∧ i ≠ .planApply ∧
      i ≠ .listenWindowEnd ∧ i ≠ .joinWindowEnd ∧ i ≠ .drainWindowEnd ∧ i ≠ .trimWindowEnd ∧ i ≠ .planIssue := by
    intro i hi
    subst hi
    unfold frameCommand
    split
    · simp
    · split <;> simp
  obtain ⟨h1, h2, h3, h4, h5, h6, h7, h8⟩ := hf _ rfl
  rcases h with ⟨_, _, h⟩ | ⟨j, _, _, _, h⟩ | ⟨_, _, h⟩ | ⟨_, _, h⟩ | ⟨_, _, h⟩ | ⟨_, _, h⟩ | ⟨_, _, h⟩ | ⟨_, _, h⟩
  · exact h1 h
  · exact h2 j h.symm
  · exact h3 h
  · exact h4 h
  · exact h5 h
  · exact h6 h
  · exact h7 h
  · exact h8 h

/-- The command that names the own step which comes next does that step. -/
theorem exec_nextOwn {c : Image} {s : State} {x : OwnStep} (hc : Configured c s) (h : nextOwn c s = some x) :
    exec x.command s = .next (x.act s) := by
  obtain ⟨hm, hd⟩ := nextOwn_mem h
  have hw := fun hw => nextOwn_of_worksDue h hw
  have hcf : ∀ f : Image → State, s.configured f = f c := configured_some hc
  refine ownSteps_cases (P := fun x => x.due = true →
    (worksDue c s = true → x ∈ boundarySteps c s ++ boundaryWorks c s) → exec x.command s = .next (x.act s)) hm
    ?_ ?_ ?_ ?_ ?_ ?_ ?_ ?_ ?_ ?_ ?_ ?_ ?_ ?_ ?_ ?_ ?_ ?_ ?_ ?_ ?_ ?_ hd hw
  case refine_1 => intro hd _; simp only [exec, execCycleBoundary, hcf]; exact congrArg _ (timed_now hd)
  case refine_2 => intro j _ _; simp only [exec, execSilenceLimit, hcf]
  case refine_3 => intro _ _; simp only [exec, execPlanApply, hcf]
  case refine_4 => intro _ _; simp only [exec, execListenWindowEnd, hcf]
  case refine_5 => intro _ _; simp only [exec, execJoinWindowEnd, hcf]
  case refine_6 => intro _ _; simp only [exec, execDrainWindowEnd, hcf]
  case refine_7 => intro _ _; simp only [exec, execTrimWindowEnd, hcf]
  case refine_8 => intro _ _; simp only [exec, execPlanIssue, hcf]
  case refine_9 => intro hd _; simp only [exec, execIntervalEnd, hcf]; exact congrArg _ (timed_now hd)
  case refine_10 => intro hd _; simp only [exec, execPhasePoint, hcf]; exact congrArg _ (timed_now hd)
  case refine_11 => intro hd _; simp only [exec, execHeldPhasePoint, hcf]; exact congrArg _ (timed_now hd)
  case refine_12 => intro hd _; simp only [exec, execBeaconPoint, hcf]; exact congrArg _ (timed_now hd)
  case refine_13 =>
    intro hd _
    simp only [yieldDue, Bool.and_eq_true, bne_iff_ne, ne_eq] at hd
    simp only [exec, execYield, hcf, hd.1.2, if_false]
    exact congrArg _ (timed_now hd.2)
  case refine_14 =>
    intro hd _
    have hr : s.link.rx ≠ .hunt := by
      simp only [glitchDue, following, Bool.and_eq_true, beq_iff_eq] at hd
      simp [hd.1.1]
    simp only [exec, execStartBitGlitch, hcf, if_neg hr]
    exact congrArg _ (reach_now hd)
  case refine_15 =>
    intro hd _
    have hr : s.link.rx = .receiving := by
      simp only [errorDue] at hd
      split at hd
      · simp only [following, Bool.and_eq_true, beq_iff_eq] at hd
        exact hd.1.1
      · simp at hd
      · simp at hd
    have he : errorOf c s.link.rxBits s = true := by
      simp only [errorOf, beq_self_eq_true, Bool.true_and]
      exact hd
    simp only [exec, execReceivedFrameError, hcf]
    exact congrArg _ (received_now hr he)
  case refine_16 =>
    intro f hf _ hw
    have hw : worksDue c s = false := by
      by_contra hne
      exact frameCommand_not_boundary (hw (by simpa using hne))
    have hr : s.link.rx = .receiving := by
      unfold frameEnded at hf
      split at hf
      · split at hf
        · rename_i h
          have := h.1
          simp only [following, Bool.and_eq_true, beq_iff_eq] at this
          exact this.1
        · cases hf
      · cases hf
      · cases hf
    have hd : frameDue c f s = true := by simp [frameDue, hf, hw]
    have ht : ∀ o, takeFrame c f o s = deliver c f o s := fun o => received_now hr hd
    obtain ⟨src, body⟩ := f
    simp only [frameCommand]
    split
    · rename_i hs
      subst hs
      simp only [exec, execClashFrame, hcf, ht]
    · cases body <;> simp only [exec, execBeacon, execPlan, execFault, execLeaveFrame, hcf, ht]
  case refine_17 => intro hd _; simp only [exec, execFrameComplete, hcf]; exact congrArg _ (timed_now hd)
  case refine_18 => intro _ _; simp only [exec, execSofEdge, hcf]
  case refine_19 => intro hd _; simp only [exec, execEnterHunt, hcf]; exact congrArg _ (timed_now hd)
  case refine_20 => intro hd _; simp only [exec, execLaunch, hcf]; exact congrArg _ (timed_now hd)
  case refine_21 => intro hd _; simp only [exec, execLineSample, hcf]; exact congrArg _ (timed_now hd)
  case refine_22 => intro hd _; simp only [exec, execLineSample, hcf]; exact congrArg _ (timed_now hd)

/-- A configured station with an empty queue goes on by itself: a step takes what is due, or counts a REFCLK period
(log 2). -/
theorem step_empty {c : Image} {s : State} (hc : Configured c s) (hp : s.pending = []) :
    step s = .next (match nextOwn c s with
      | some x => x.act s
      | none => clock s) := by
  unfold step
  rw [hp]
  simp only [idleStep, dueNow, show s.loader.config = some c from hc]
  cases h : nextOwn c s with
  | none => rfl
  | some x => exact exec_nextOwn hc h

end Sys2Proof.Machine
end

