-- ==== Sys2Proof/Tests/Slice0.lean ====
section
/-! SUPPORT. Tests: ill-formed commands that the check refuses, examples of the spec on small states, and for every
statement a state and operands that meet its premises together. -/

namespace Sys2Proof.Tests

open Sys2Proof.Machine Sys2Proof.Safety

-- One theorem after the other: kernel evaluations that run side by side each hold a thread.
set_option Elab.async false

/-! ### Small states -/

/-- An image of station 5: BITTIME 4, P 1000, B 1, CORRMAX 8, PLANLEAD 4, DTA and DTB 25, OTBMIN 100, WALKSTEP 20,
FLTA a CUT line with SAMPLE 4 and COUNT 1, FLTB a LATCH line with SAMPLE 1 and COUNT 2, CUTLIMIT 1. -/
def img : Image where
  station := 5
  tickDiv := 2
  bitTime := 4
  p := 1000
  latency := 3
  activeLow := false
  autoJoin := false
  beaconInt := 1
  honourTrip := true
  corrMax := 8
  lockWin := 8
  planLead := 4
  maxMembers := 8
  dta := 25
  dtb := 25
  otbMin := 100
  walkStep := 20
  flta := ⟨.cut, 4, 1, true, .high⟩
  fltb := ⟨.latch, 1, 2, false, .high⟩
  cutLimit := 1
  initTrim := 0
  alertMask := 0x0008#16

/-- Station 5, DETACHED and FREE, at counter 100 of cycle 10, hunting on an idle bus. -/
def calm : State :=
  { State.reset with
    timer := { Timer.reset with run := .running, counter := 100, seq := 10, length := 1000, prevLength := 1000 }
    link := { Link.reset with tx := .idle, rx := .hunt }
    member := { Member.reset with state := .detached }
    gen := { Gen.reset with kind := some .dark, dueSeq := 11, ceiling := 821 }
    mon := { Monitor.reset .low .low with run := .running }
    loader := ⟨.accepted, 1, [], some img, ⟨.none, none, 1⟩, .power, 0, []⟩ }

/-- Station 5 with this membership state. -/
def inState (m : Membership) (s : State) : State :=
  { s with member := { s.member with state := m } }

/-- Station 5 at this counter value. -/
def atTick (n : Nat) (s : State) : State :=
  { s with timer := { s.timer with counter := n } }

/-- Station 5 in the set {2, 5} of epoch 7, LOCKED, with station 2 a MEMBER of the roster. -/
def grouped : State :=
  { calm with
    align := { Align.reset with state := .locked }
    roster := putAt rosterReset 2 { Entry.cleared with presence := .member, reported := some .active }
    plan := { PlanCtl.reset with epoch := some 7, set := some 0x0024#16, place := placeIn 1000 0x0024#16 5 }
    gen := { calm.gen with phi := 500, held := 500, dueSeq := 10 } }

/-- `grouped` as an ACTIVE station at its phase point, at the end of a live cycle's OTB. -/
def active : State :=
  atTick 500 { inState .active grouped with
    gen := { grouped.gen with
      kind := some .live, interval := some .otb, age := 200, unbroken := true, staged := 850, otaEff := 821 } }

/-- A line that is due for its sample. -/
def sampling (phase runCount : Nat) (asserted : Bool) : LineState :=
  { LineState.reset .low with phase := phase, runCount := runCount, asserted := asserted }

/-- This frame of another source stands at its end in the receiver. -/
def atEnd (f : Frame) (s : State) : State :=
  { s with
    timer := { s.timer with captureAge := frameLength f * 4, capture := some ⟨s.timer.seq, s.timer.counter⟩ }
    link := { s.link with rx := .receiving, rxBits := frameBits f } }

/-- The tick that ends the cycle has come. -/
def ending (s : State) : State :=
  { s with timer := { s.timer with counter := s.timer.length - 1, atEnd := true } }

/-- What a command leads to. -/
def after (i : Instr) (s : State) : State :=
  match exec i s with
  | .next t => t
  | .fault _ => s
  | .refused _ => s

/-- Nothing of the present instant is left to take. -/
def isSettled (c : Image) (s : State) : Bool :=
  stations.all (fun j => !silenceDue c s j) && !applyDue s && !listenDue c s && !joinDue c s && !drainDue c s &&
    !trimDue s && !issueDue s

theorem mem_stations (j : Station) : j ∈ stations := by
  revert j; decide

/-- The check is the premise. -/
theorem settled_of {c : Image} {s : State} (h : isSettled c s = true) : Settled c s := by
  simp only [isSettled, Bool.and_eq_true, List.all_eq_true, Bool.not_eq_true'] at h
  obtain ⟨⟨⟨⟨⟨⟨h1, h2⟩, h3⟩, h4⟩, h5⟩, h6⟩, h7⟩ := h
  exact ⟨fun j => h1 j (mem_stations j), h2, h3, h4, h5, h6, h7⟩

/-- The premises of a frame at its end, as a check. -/
def isAtEnd (f : Frame) (s : State) : Bool :=
  s.loader.config == some img && isSettled img s && s.link.rx == .receiving && s.link.tx != .sending &&
    judge s.link.rxBits == .valid f && s.timer.captureAge == frameLength f * img.bitTime

/-- The check is the premise. -/
theorem frameEnd_of {f : Frame} {s : State} (h : isAtEnd f s = true) : AtFrameEnd img f s := by
  simp only [isAtEnd, Bool.and_eq_true, beq_iff_eq, bne_iff_ne] at h
  obtain ⟨⟨⟨⟨⟨h1, h2⟩, h3⟩, h4⟩, h5⟩, h6⟩ := h
  exact ⟨h1, settled_of h2, h3, h4, h5, h6⟩

/-- A sound image of station 5: P 1000, LATENCY 3, AUTOJOIN, B 1. -/
def soundImage : List Byte :=
  [0x05#8, 0x03#8, 0xE8#8, 0x83#8, 0x00#8, 0x08#8, 0x08#8, 0x04#8,
    0x08#8, 0x19#8, 0x19#8, 0x00#8, 0x64#8, 0x14#8, 0x45#8, 0x93#8] ++
    [0x01#8, 0x00#8, 0x00#8, 0x08#8, 0x00#8, 0x00#8, 0x00#8, 0x00#8,
    0x00#8, 0x00#8, 0x00#8, 0x00#8, 0x00#8, 0x00#8, 0x2E#8, 0x91#8]

/-- The same image with CORRMAX 0 and its CRC made to match. -/
def badImage : List Byte :=
  [0x05#8, 0x03#8, 0xE8#8, 0x83#8, 0x00#8, 0x00#8, 0x08#8, 0x04#8,
    0x08#8, 0x19#8, 0x19#8, 0x00#8, 0x64#8, 0x14#8, 0x45#8, 0x93#8] ++
    [0x01#8, 0x00#8, 0x00#8, 0x08#8, 0x00#8, 0x00#8, 0x00#8, 0x00#8,
    0x00#8, 0x00#8, 0x00#8, 0x00#8, 0x00#8, 0x00#8, 0x23#8, 0x73#8]

/-- The loader reads in attempt 1. -/
def reading : State :=
  { State.reset with loader := ⟨.reading, 1, [], none, ⟨.none, none, 1⟩, .power, 0, []⟩ }

/-- A bit of a frame of station 5 in flight stands at its mid-bit sample. -/
def sendingAt (body : FrameBody) (bit : Nat) : State :=
  { grouped with
    timer := { grouped.timer with captureAge := bit * 4 + 2 }
    link := { grouped.link with
      qFault := some ⟨⟨.flta, true⟩, 0⟩
      tx := .sending
      inFlight := some ⟨⟨5, body⟩, true⟩
      rx := .receiving
      rxBits := (frameBits ⟨5, body⟩).take bit } }

/-- The body of a FAULT. -/
def faultBody : FrameBody :=
  .fault ⟨.flta, true, 10⟩

/-- The body of a BEACON of a member of the set {2, 5}. -/
def beaconOf (seq : Seq) (stamp : BitVec 12) : BeaconBody :=
  ⟨seq, stamp, .active, true, 7, false, 0, 2, 1, 1000⟩

/-- A plan of this epoch. -/
def planOf (epoch : Epoch) (issuer : Station) : PlanRecord :=
  ⟨epoch, issuer, 0x0224#16, 20⟩

/-- `s` with this pending plan. -/
def withPending (r : PlanRecord) (s : State) : State :=
  { s with plan := { s.plan with pending := some r } }

/-- `s` with this capture. -/
def withCapture (cap : TimePair) (s : State) : State :=
  { s with timer := { s.timer with capture := some cap } }

/-! ### Ill-formed commands -/

theorem test_image_is_32_bytes :
    (Instr.imageCheck 0 (List.replicate 31 0)).wellFormed = false ∧
    (Instr.imageCheck 10 (List.replicate 32 0)).wellFormed = false ∧
    (Instr.imageCheck 9 (List.replicate 32 0)).wellFormed = true := by decide

theorem test_boundary_takes_a_work_once :
    (Instr.cycleBoundary [.silence, .apply, .silence]).wellFormed = false ∧
    (Instr.cycleBoundary [.silence, .apply]).wellFormed = true := by decide

theorem test_bus_clear_has_nine_pulses :
    (Instr.attemptFailed (.noAckWriteAddress 10)).wellFormed = false ∧
    (Instr.attemptFailed (.noAckWordAddress 10)).wellFormed = false ∧
    (Instr.attemptFailed (.noAckReadAddress 10)).wellFormed = false ∧
    (Instr.attemptFailed (.noAckReadAddress 9)).wellFormed = true := by decide

theorem test_yield_bit :
    (Instr.yieldAt ⟨0, []⟩).wellFormed = false ∧ (Instr.yieldAt ⟨77, []⟩).wellFormed = false ∧
    (Instr.yieldAt ⟨76, [true]⟩).wellFormed = false ∧
    (Instr.yieldAt ⟨1, []⟩).wellFormed = true ∧ (Instr.yieldAt ⟨76, []⟩).wellFormed = true := by decide

theorem test_edge_bits :
    (Instr.sofEdge [true]).wellFormed = false ∧ (Instr.sofEdge (List.replicate 78 false)).wellFormed = false ∧
    (Instr.sofEdge []).wellFormed = true ∧ (Instr.sofEdge [false, true]).wellFormed = true := by decide

theorem test_line_fault_bit :
    (Instr.lineFault 77).wellFormed = false ∧ (Instr.lineFault 0).wellFormed = true := by decide

theorem test_error_bits :
    (Instr.receivedFrameError (frameBits ⟨5, faultBody⟩)).wellFormed = false ∧
    (Instr.receivedFrameError []).wellFormed = false ∧
    (Instr.receivedFrameError (List.replicate 26 false)).wellFormed = true := by decide +kernel

theorem test_undefined_request :
    (Instr.undefinedRequest 0x01#8 (whole [0x01#8, 0])).wellFormed = false ∧
    (Instr.undefinedRequest 0x21#8 (whole [0x21#8, 0x04#8])).wellFormed = false ∧
    (Instr.undefinedRequest 0x00#8 (whole [0x01#8])).wellFormed = false ∧
    (Instr.undefinedRequest 0x21#8 (whole [0x21#8, 0x05#8])).wellFormed = true ∧
    (Instr.undefinedRequest 0x00#8 (whole [0x00#8])).wellFormed = true := by decide +kernel

theorem test_piece_does_something :
    (Instr.statusRead ⟨false, [], false, false⟩).wellFormed = false ∧
    (Instr.alignRead ⟨false, [], false, false⟩).wellFormed = false ∧
    (Instr.countersRead ⟨false, [], false, false⟩).wellFormed = false ∧
    (Instr.countersReadWithClear ⟨false, [], false, false⟩).wellFormed = false ∧
    (Instr.rosterRead ⟨false, [], false, false⟩).wellFormed = false ∧
    (Instr.eventsReadAndClear ⟨false, [], false, false⟩).wellFormed = false ∧
    (Instr.demandWrite ⟨false, [], false, false⟩).wellFormed = false ∧
    (Instr.alertMaskWrite ⟨false, [], false, false⟩).wellFormed = false ∧
    (Instr.undefinedRequest 0x00#8 ⟨false, [], false, false⟩).wellFormed = false := by decide

/-- A piece that opens begins with the bits of its row's request code, and of its command byte. -/
theorem test_piece_begins_as_its_row :
    (Instr.statusRead (whole [0x02#8])).wellFormed = false ∧
    (Instr.join (whole [0x21#8, 0x02#8])).wellFormed = false ∧
    (Instr.leave (whole [0x21#8, 0x03#8])).wellFormed = false ∧
    (Instr.clearFault (whole [0x21#8, 0x04#8])).wellFormed = false ∧
    (Instr.restart (whole [0x21#8, 0x01#8])).wellFormed = false ∧
    (Instr.restart (whole [0x21#8, 0x04#8])).wellFormed = true ∧
    (Instr.statusRead ⟨true, [false, false], false, true⟩).wellFormed = true := by decide +kernel

/-- The table gives no row any bits, so no word spells a command. -/
theorem test_no_word_spells_a_command (nbits w : Nat) : decodeTableWord nbits w = none := rfl

/-! ### Examples of the spec -/

/-- The rows 11, 12 and 21 of the example of trim accumulation, and a negative one (R6). -/
theorem test_trim_accumulation :
    accumulate 1000 100 = (76, 1) ∧ accumulate 76 100 = (176, 0) ∧ accumulate 976 100 = (52, 1) ∧
    accumulate (-1000) (-24) = (0, -1) := by decide

/-- The example of deviations in one cycle (R66, R67). -/
theorem test_deviations :
    deviationOf { img with latency := 20 } ⟨120, 277⟩ 120 250 = 7 ∧
    deviationOf { img with latency := 20 } ⟨120, 14⟩ 119 998 = -4 ∧
    deviationOf { img with latency := 20 } ⟨120, 729⟩ 120 700 = 9 ∧
    usable img 530 = false ∧ usable img 499 = true ∧ usable img 500 = false := by decide

/-- Truncation toward zero (R72). -/
theorem test_mean_truncates_toward_zero :
    ([-3, -4] : List Int).sum.tdiv 2 = -3 ∧ ([7, 4, -2] : List Int).sum.tdiv 3 = 3 := by decide

/-- The two walks of the chapter and a backward crossing (R147). -/
theorem test_walks :
    walkMove 1000 20 666 500 = -20 ∧ walkMove 1000 20 506 500 = -6 ∧ walkMove 1000 20 990 30 = 20 ∧
    movedPhi 1000 990 20 = 10 ∧ dueAdvance 1000 990 20 = 2 ∧ dueAdvance 1000 10 (-20) = 0 ∧
    movedPhi 1000 10 (-20) = 990 ∧ walkMove 1000 20 0 500 = 20 := by decide

/-- Rank, size and target of stations 5 and 9 in {2, 5, 9} (R115, R135). -/
theorem test_place_in_a_set :
    placeIn 1000 0x0224#16 5 = some ⟨1, 3, 333⟩ ∧ placeIn 1000 0x0224#16 9 = some ⟨2, 3, 666⟩ ∧
    placeIn 1000 0x0224#16 4 = none := by decide

/-- The table of ceilings (R146). -/
theorem test_ceilings :
    ceilingOf 1000 8 20 25 25 100 = 821 ∧ ceilingOf 1000 8 8 10 10 0 = 963 ∧
    ceilingOf 256 4 16 8 8 40 = 179 ∧ ceilingOf 3600 31 64 40 40 300 = 3124 := by decide

/-- SOF 0, KIND 00, SRC 0101, ORIGIN 01, GTRIP 1, SEQ 80h, then CRC and EOF (R19). -/
theorem test_fault_frame_bits :
    (frameBits ⟨5, .fault ⟨.fltb, true, 0x80#8⟩⟩).take 18 =
      [false, false, false, false, true, false, true, false, true, true,
       true, false, false, false, false, false, false, false] ∧
    (frameBits ⟨5, .fault ⟨.fltb, true, 0x80#8⟩⟩).length = 28 := by decide +kernel

/-- The example of adopting a timebase (R10). -/
theorem test_adopted_timebase :
    let t := ({ calm.timer with captureAge := 616 } : Timer).coarse { img with latency := 20 } (beaconOf 41 700)
    (t.counter, t.seq) = (336, 42) := by decide

/-- The example of one sample sequence (R158). -/
theorem test_sample_sequence :
    let set : LineSettings := ⟨.latch, 4, 3, false, .high⟩
    let first := (sampling 4 0 false).sampled set .high
    let second := ({ first with phase := 4 } : LineState).sampled set .high
    (first.runCount, second.runCount, second.asserted, (second.sampled set .low).runCount,
      (second.sampled set .high).asserted) = (1, 2, false, 0, true) := by decide

/-- JOINING, LOCKED, not latched, ACCEPTED (R186). -/
theorem test_rejoin_status_byte :
    statusByte (inState .joining grouped) = 0x13#8 := by decide

/-- Byte 0 of a STATUS READ, bit by bit: the status byte goes out most significant bit first, the first bit at the fall
of CP_CS#, and a transaction of five bits has taken no byte (R185, R186). -/
theorem test_bits_of_byte_zero :
    let s := inState .joining grouped
    let opened := after (.statusRead ⟨true, [], false, false⟩) s
    let five := after (.statusRead ⟨false, [false, false, false, false, false], true, false⟩) opened
    (opened.port.sdo, five.port.sdo, five.port.sdi.length, five.port.request) =
      ([false], [false, false, false, true, false, false], 5, none) ∧
    (after (.statusRead ⟨false, [], false, true⟩) five).port.txn = .closed := by decide +kernel

/-- A peer's frame sent from a SOF edge on is sampled bit by bit and delivered at its end, on the own clock alone (R31,
R32). -/
theorem test_peer_frame_is_sampled :
    let f : Frame := ⟨2, .leave ⟨3, .requested⟩⟩
    let s := after (.sofEdge (frameBits f)) { calm with gen := { calm.gen with dueSeq := 20 } }
    let t := after (.leaveFrame 2 ⟨3, .requested⟩) s
    (s.link.rx, t.link.rx, t.link.framesRx, t.timer.counter) = (.receiving, .hunt, 1, 100 + 27 * 4) := by decide +kernel

/-! ### The premises of the statements can be met -/

theorem test_premises_StepTakesTheFrontCommand :
    ({ calm with pending := [.markEnd, .launch] } : State).pending = .markEnd :: [.launch] := rfl

/-- Each clause of the clock on an empty queue; the receiver in HUNT, and at a mid-bit sample and between two; and
without an image the last REFCLK period of a retry wait, its end, and an attempt in progress. -/
theorem test_premises_EmptyQueueRunsTheClock :
    let due := { calm with gen := { calm.gen with phi := 100, dueSeq := 10 } }
    let late := { calm with timer := { calm.timer with divider := 1 } }
    let last := atTick 999 late
    let receiving := { late with
      timer := { late.timer with captureAge := 1 }
      link := { late.link with rx := .receiving } }
    let between := { receiving with timer := { receiving.timer with captureAge := 2 } }
    Configured img calm ∧ calm.pending = [] ∧ dueNow calm = none ∧ calm.timer.divider + 1 < img.tickDiv ∧
    dueNow due = some .phasePoint ∧ (ending due).timer.atEnd = true ∧
    dueNow late = none ∧ late.timer.divider + 1 = img.tickDiv ∧ late.link.rx = .hunt ∧
    dueNow last = none ∧ last.timer.length ≤ last.timer.counter + 1 ∧
    dueNow receiving = none ∧ (receiving.timer.captureAge + 1) % img.bitTime = img.bitTime / 2 ∧
    dueNow between = none ∧ (between.timer.captureAge + 1) % img.bitTime ≠ img.bitTime / 2 ∧
    (let waiting := fun n : Nat => { reading with loader := { reading.loader with load := .retryWait, waited := n } }
     reading.loader.config = none ∧ reading.pending = [] ∧ reading.loader.load ≠ .retryWait ∧
     (waiting 65535).loader.waited < 65536 ∧ 65536 ≤ (waiting 65536).loader.waited) := by decide +kernel

theorem test_premises_LoadAttemptsBeginFailAndRepeat :
    State.reset.loader = Loader.reset .power ∧ reading.loader.load = .reading ∧ reading.loader.attempt < 3 ∧
    ({ reading with loader := { reading.loader with attempt := 3 } } : State).loader.attempt = 3 ∧
    (after (.attemptFailed .stuckLow) reading).loader.load = .retryWait := by decide +kernel

/-- A CRC that fails, a field that fails after it, and a sound image, by the register of R177 spelled out. -/
theorem test_premises_BadImageIsRefused :
    let crc := fun image : List Byte => ((image.take 30).flatMap fun b => (List.range 8).map fun i =>
      b.getLsbD (7 - i)).foldl (fun (reg : BitVec 16) bit =>
        if (reg.getLsbD 15 ^^ bit) then (reg <<< 1) ^^^ 0x1021#16 else reg <<< 1) 0xFFFF#16
    let sound := fun image : List Byte =>
      image.getD 30 0 = (crc image).extractLsb' 8 8 ∧ image.getD 31 0 = (crc image).extractLsb' 0 8
    reading.loader.load = .reading ∧ ¬sound (List.replicate 32 0) ∧ sound badImage ∧ badImage.getD 5 0 = 0 ∧
    firstFailure badImage = some 10 ∧ sound soundImage ∧ firstFailure soundImage = none := by decide +kernel

/-- The runs of bits that decide the CRC: one that fails it and one that passes. -/
theorem test_premises_EveryFrameIsReadBackWhole :
    kindBits (sampledKind (List.replicate 28 false)) - 2 ≤ (List.replicate 28 false).length ∧
    judge (List.replicate 28 false) = .error 25 ∧
    kindBits (sampledKind (frameBits ⟨5, faultBody⟩)) - 2 ≤ ((frameBits ⟨5, faultBody⟩).take 26).length ∧
    judge ((frameBits ⟨5, faultBody⟩).take 26) = .incomplete := by decide +kernel

theorem test_premises_SoundImageStartsTheStation :
    reading.loader.load = .reading ∧ crcMatches soundImage = true ∧ firstFailure soundImage = none ∧
    reading.timer = Timer.reset ∧ reading.link = Link.reset ∧ reading.align = Align.reset ∧
    reading.member = Member.reset ∧ reading.plan = PlanCtl.reset ∧
    reading.gen = { Gen.reset with staged := 0 } ∧ reading.mon = Monitor.reset .low .low := by decide +kernel

/-- Acceptance raises no event (R183). The first phase point is the own step due at that instant (R140), and clips a
demand staged in the load to the 821 of R144's example, with DEMAND_CLIPPED (R145, R155; log 14). -/
theorem test_first_phase_point_follows_acceptance :
    let s := { reading with gen := { reading.gen with staged := 0xFFF#12 } }
    let t := after (.imageCheck 0 soundImage) s
    t.port.flags = 0 ∧ t.roster = rosterReset ∧ t.pending = [] ∧ dueNow t = some .phasePoint ∧
    (after .phasePoint t).port.flags = 0x0200#16 ∧ (after .phasePoint t).gen.otaEff = 821 ∧
    (after .phasePoint t).gen.kind = some .dark ∧ (after .phasePoint t).timer.counter = 0 := by decide +kernel

theorem test_premises_AcceptedImageIsInRange :
    reading.loader.config = none ∧
    ∃ t, exec (.imageCheck 0 soundImage) reading = .next t ∧ t.loader.config = some (imageOf soundImage) := by
  refine ⟨rfl, after (.imageCheck 0 soundImage) reading, rfl, ?_⟩
  decide +kernel

/-- A station at the end of its cycle, and the three rows of R6 at their ends. -/
theorem test_premises_CycleBoundaryTurnsTheCycle :
    AtCycleEnd img (ending active) ∧
    (∃ s, AtCycleEnd img s ∧ s.timer.acc + s.timer.trim = 1024) ∧
    (∃ s, AtCycleEnd img s ∧ s.timer.acc + s.timer.trim = -1024) ∧
    (∃ s, AtCycleEnd img s ∧ s.timer.acc + s.timer.trim = 1023) :=
  ⟨⟨rfl, rfl⟩,
    ⟨ending { active with timer := { active.timer with acc := 1000, trim := 24 } }, ⟨rfl, rfl⟩, by decide⟩,
    ⟨ending { active with timer := { active.timer with acc := -1000, trim := -24 } }, ⟨rfl, rfl⟩, by decide⟩,
    ⟨ending { active with timer := { active.timer with acc := 1000, trim := 23 } }, ⟨rfl, rfl⟩, by decide⟩⟩

/-- Means at LOCKWIN and one past it, in PULLING and in LOCKED, at the last streak before a change and the first; no
value at all; and no timebase. -/
theorem test_premises_BoundaryMeasuresAndCorrects :
    let pulling := fun (streak : Nat) (d : Int) => ending { grouped with
      align := { grouped.align with state := .pulling, lockStreak := streak, table := putAt tableReset 2 (some d) } }
    let locked := fun (streak : Nat) (d : Int) => ending { active with
      align := { grouped.align with lockStreak := streak, table := putAt tableReset 2 (some d) } }
    let mean := fun s : State => (stations.filterMap fun j => s.align.table[j]).sum.tdiv
      (stations.filterMap fun j => s.align.table[j]).length
    img.corrMax ≤ img.p / 8 ∧ (∀ n d, AtCycleEnd img (pulling n d)) ∧ (∀ n d, AtCycleEnd img (locked n d)) ∧
    (mean (pulling 7 8)).natAbs = img.lockWin ∧ (mean (pulling 6 8)).natAbs = img.lockWin ∧
    img.lockWin < (mean (pulling 7 9)).natAbs ∧ img.lockWin < (mean (locked 3 (-9))).natAbs ∧
    img.lockWin < (mean (locked 2 9)).natAbs ∧ (mean (locked 3 8)).natAbs = img.lockWin ∧
    AtCycleEnd img (ending active) ∧ (stations.filterMap fun j => (ending active).align.table[j]) = [] ∧
    AtCycleEnd img (ending calm) ∧ calm.align.state = .free := by
  exact ⟨by decide, fun _ _ => ⟨rfl, rfl⟩, fun _ _ => ⟨rfl, rfl⟩, by decide +kernel, by decide +kernel,
    by decide +kernel, by decide +kernel, by decide +kernel, by decide +kernel, ⟨rfl, rfl⟩, by decide +kernel,
    ⟨rfl, rfl⟩, rfl⟩

/-- A beaconing cycle and one that is none. -/
theorem test_premises_BoundaryAgesCountsAndSchedules :
    let every2 : Image := { img with beaconInt := 2 }
    let s := ending { active with loader := { active.loader with config := some every2 } }
    AtCycleEnd img (ending active) ∧ AtCycleEnd every2 s ∧ (s.timer.seq + 1).toNat % 2 = every2.station.val % 2 ∧
    (({ s with timer := { s.timer with seq := 11 } } : State).timer.seq + 1).toNat % 2 ≠ every2.station.val % 2 ∧
    (active.roster[(2 : Station)]).presence = .member ∧ (active.roster[(3 : Station)]).presence = .absent :=
  ⟨⟨rfl, rfl⟩, ⟨rfl, rfl⟩, by decide, by decide, by decide +kernel, by decide +kernel⟩

/-- No difference; a silent member with the holdoff stopped and counting; a locked joiner; a set that comes out empty;
an issued plan that is still to be repeated, and one that is not. -/
theorem test_premises_HoldoffCountsAtTheBoundary :
    let silent := { active with roster := putAt active.roster 2 { Entry.cleared with presence := .silent } }
    let counting := { silent with plan := { silent.plan with holdoff := some 1 } }
    let joining := { active with
      roster := putAt active.roster 9 { Entry.cleared with presence := .heard, reported := some .joining, lock := true } }
    let alone := { silent with plan := { silent.plan with set := some 0x0004#16 } }
    let issued := withPending (planOf 8 5) { active with plan := { active.plan with lastIssued := some (planOf 8 5) } }
    let repeating := { issued with plan := { issued.plan with repeats := 1 } }
    AtCycleEnd img (ending active) ∧ active.member.state = .active ∧ active.plan.pending = none ∧
    desiredSet img active = referenceSet active.plan ∧ AtCycleEnd img (ending silent) ∧
    desiredSet img silent ≠ referenceSet silent.plan ∧ silent.plan.holdoff = none ∧
    desiredSet img counting ≠ referenceSet counting.plan ∧ counting.plan.holdoff = some 1 ∧
    desiredSet img joining = 0x0224#16 ∧ AtCycleEnd img (ending joining) ∧
    desiredSet img alone = 0x0004#16 ∧ AtCycleEnd img (ending alone) ∧
    AtCycleEnd img (ending issued) ∧ (planOf 8 5).effSeq ≠ issued.timer.seq + 1 ∧
    issued.plan.pending = issued.plan.lastIssued ∧ issued.plan.repeats = 0 ∧ repeating.plan.repeats = 1 := by
  exact ⟨⟨rfl, rfl⟩, rfl, rfl, by decide +kernel, ⟨rfl, rfl⟩, by decide +kernel, rfl, by decide +kernel, rfl,
    by decide +kernel, ⟨rfl, rfl⟩, by decide +kernel, ⟨rfl, rfl⟩, ⟨rfl, rfl⟩, by decide, rfl, rfl, rfl⟩

theorem test_premises_TrimWindowEndStepsTrim :
    let s := { active with
      align := { active.align with windowCount := 16, windowSum := 5 }, timer := { active.timer with trim := 127 } }
    Configured img s ∧ 16 ≤ s.align.windowCount ∧ -127 ≤ s.timer.trim ∧ s.timer.trim ≤ 127 := by decide +kernel

theorem test_premises_SilenceLimitChangesPresence :
    let s := { active with roster := tabulate fun j =>
      { Entry.cleared with presence := if j = 2 then .member else .heard, silence := 6 } }
    Configured img s ∧ (2 : Station) ≠ img.station ∧ 4 * img.beaconInt + 2 ≤ (s.roster[(2 : Station)]).silence ∧
    inCurrent s 2 = true ∧ (s.roster[(2 : Station)]).presence = .member ∧
    inCurrent s 3 = false ∧ (s.roster[(3 : Station)]).presence = .heard := by decide +kernel

/-- A beacon point, and one in a cycle shorter than it. -/
theorem test_premises_BeaconPointRequestsABeacon :
    let s := { active with link := { active.link with beaconPoint := some 500 } }
    let short := atTick 899 { s with
      timer := { s.timer with length := 900 }, link := { s.link with beaconPoint := some 950 } }
    Configured img s ∧ s.link.beaconPoint = some 500 ∧ s.link.beaconDone = false ∧
    s.timer.counter = min 500 (s.timer.length - 1) ∧ s.member.state = .active ∧
    short.link.beaconPoint = some 950 ∧ short.timer.counter = min 950 (short.timer.length - 1) ∧
    (inState .faulted s).member.state = .faulted := by decide +kernel

theorem test_premises_PlanIssueTakesThePlanPending :
    let due := { active with plan := { active.plan with holdoff := some 0 } }
    let silent := { due with roster := putAt due.roster 2 { Entry.cleared with presence := .silent } }
    let far := withPending ⟨134, 2, 0x0024#16, 20⟩ silent
    Configured img due ∧ due.member.state = .active ∧ due.plan.holdoff = some 0 ∧
    desiredSet img due = referenceSet due.plan ∧ desiredSet img silent ≠ referenceSet silent.plan ∧
    desiredSet img far ≠ referenceSet far.plan ∧ ((134 : Epoch) + 1 - 7).toNat = 128 := by decide +kernel

/-- A JOINING station that the plan takes in, a DRAINING and an ACTIVE one that it leaves out, and one it keeps. -/
theorem test_premises_PlanApplyBringsThePlanIntoForce :
    let s := withPending ⟨8, 2, 0x0224#16, 10⟩ (inState .joining grouped)
    let gone := withPending ⟨8, 2, 0x0204#16, 10⟩ (inState .draining grouped)
    let out := withPending ⟨8, 2, 0x0204#16, 10⟩ active
    let kept := withPending ⟨8, 2, 0x0224#16, 10⟩ active
    Configured img s ∧ s.plan.pending = some ⟨8, 2, 0x0224#16, 10⟩ ∧ s.timer.seq = 10 ∧ ¬Escalating img s ∧
    (0x0224#16).getLsbD img.station.val = true ∧ (0x0204#16).getLsbD img.station.val = false ∧
    gone.member.state = .draining ∧ ¬Escalating img gone ∧ out.member.state = .active ∧ ¬Escalating img out ∧
    kept.member.state = .active ∧ ¬Escalating img kept := by decide +kernel

/-- A JOINING station whose target is 0, at the boundary and past it, with a dark cycle, a live one whose OTB has lasted
OTBMIN and one a tick short of it; and a PULLING station that the plan leaves sole member. -/
theorem test_premises_PlanApplyEntersActive :
    let plan : PlanRecord := ⟨8, 2, 0x0220#16, 10⟩
    let s := withPending plan (inState .joining grouped)
    let live := fun (age : Nat) => withPending plan (inState .joining { active with
      gen := { active.gen with age := age, hold := true } })
    let alone := withPending ⟨8, 2, 0x0020#16, 10⟩ (inState .joining { grouped with
      align := { grouped.align with state := .pulling, lockStreak := 7 } })
    placeIn img.p plan.members img.station = some ⟨0, 2, 0⟩ ∧ (atTick 0 s).timer.counter = 0 ∧ s.timer.counter ≠ 0 ∧
    Configured img s ∧ ¬Escalating img s ∧ s.gen.kind ≠ some .live ∧ 0 < img.p ∧ s.timer.seq = plan.effSeq ∧
    ¬Escalating img (live 100) ∧ (live 100).gen.kind = some .live ∧ img.otbMin ≤ (live 100).gen.age ∧
    ¬Escalating img (live 99) ∧ (live 99).gen.interval = some .otb ∧ (live 99).gen.age < img.otbMin ∧
    ¬Escalating img alone ∧ alone.align.state = .pulling ∧
    (∀ j : Station, (0x0020#16).getLsbD j.val = true ↔ j = img.station) := by decide +kernel

/-- A member that the plan leaves out and a station it takes in; a MEMBER whose silence limit is due, inside the new set
and outside it, and a HEARD entry that ages out. -/
theorem test_premises_PlanApplyChangesTheRoster :
    let s := withPending ⟨8, 2, 0x0220#16, 10⟩ active
    let due := { s with roster := tabulate fun j =>
      { Entry.cleared with presence := if j = 2 then .member else .heard, silence := 6 } }
    Configured img s ∧ s.plan.pending = some ⟨8, 2, 0x0220#16, 10⟩ ∧ s.timer.seq = 10 ∧
    inSet 0x0220#16 2 = false ∧ (s.roster[(2 : Station)]).presence = .member ∧
    (s.roster[(2 : Station)]).silence < 4 * img.beaconInt + 2 ∧ inSet 0x0220#16 9 = true ∧
    4 * img.beaconInt + 2 ≤ (due.roster[(2 : Station)]).silence ∧ inCurrent due 2 = true ∧
    (due.roster[(9 : Station)]).presence = .heard ∧ inCurrent due 9 = false ∧ inSet 0x0024#16 2 = true := by
  decide +kernel

/-- A dark cycle, a live one whose OTB has lasted OTBMIN and one a tick short of it, and a c past ±CORRMAX. -/
theorem test_premises_ListenWindowEndFounds :
    let founding := fun s : State => atTick 0 { inState .listen s with
      member := { (inState .listen s).member with listenWindow := some 6 }
      align := { s.align with state := .free } }
    let s := founding calm
    let live := fun age : Nat => founding { active with gen := { active.gen with age := age } }
    let steep := { s with timer := { s.timer with corr := 125 } }
    Configured img s ∧ s.member.state = .listen ∧ s.member.listenWindow = some 6 ∧ 4 * img.beaconInt + 2 ≤ 6 ∧
    s.align.state = .free ∧ s.timer.counter = 0 ∧ 0 < img.p ∧ ¬Escalating img s ∧ s.gen.kind ≠ some .live ∧
    Configured img (live 100) ∧ ¬Escalating img (live 100) ∧ (live 100).gen.kind = some .live ∧
    (live 100).gen.interval = some .otb ∧ img.otbMin ≤ (live 100).gen.age ∧ ¬Escalating img (live 99) ∧
    (live 99).gen.age < img.otbMin ∧ ¬Escalating img steep ∧ (img.corrMax : Int) < steep.timer.corr := by
      decide +kernel

theorem test_premises_JoinAndDrainWindowsEnd :
    16 * img.beaconInt + img.planLead + 8 ≤ 28 ∧ 4 * img.beaconInt + img.planLead + 36 ≤ 44 ∧
    (inState .joining { grouped with member := { calm.member with joinWindow := some 28, attempts := 2 } }).member =
      ⟨.joining, none, some 28, none, 2, false⟩ ∧
    (inState .draining { grouped with member := { calm.member with drainWindow := some 44 } }).member =
      ⟨.draining, none, none, some 44, 0, false⟩ ∧
    inSet (planOf 8 2).members img.station = true := by decide +kernel

theorem test_premises_LaunchSendsTheHighestPriority :
    let l := { grouped.link with tx := .defer, idle := 40, qBeacon := some ⟨(), 0⟩ }
    let s := { grouped with link := l }
    let faulty := { s with link := { l with qFault := some ⟨⟨.flta, true⟩, 0⟩, backoff := true, idle := 64 } }
    Configured img s ∧ s.link.tx = .defer ∧ s.link.rx = .hunt ∧ 10 * img.bitTime ≤ s.link.idle ∧
    s.link.qBeacon = some ⟨(), 0⟩ ∧ s.link.qFault = none ∧ s.link.qLeave = none ∧ s.link.qPlan = none ∧
    (11 + img.station.val) * img.bitTime ≤ faulty.link.idle ∧ faulty.link.backoff = true := by decide +kernel

/-- The first retry, the eighth yield, and a frame that lost its slot. -/
theorem test_premises_YieldBacksOffAndCountsRetries :
    let s := sendingAt faultBody 4
    let last := { s with link := { s.link with qFault := some ⟨⟨.flta, true⟩, 7⟩ } }
    let lost := { s with link := { s.link with inFlight := some ⟨⟨5, faultBody⟩, false⟩ } }
    Sending img ⟨⟨5, faultBody⟩, true⟩ s ∧ (frameBits ⟨5, faultBody⟩)[4]? = some true ∧
    s.timer.captureAge = 4 * img.bitTime + img.bitTime / 2 ∧ s.link.retries .fault = some 0 ∧
    Sending img ⟨⟨5, faultBody⟩, true⟩ last ∧ last.link.retries .fault = some 7 ∧
    Sending img ⟨⟨5, faultBody⟩, false⟩ lost :=
  ⟨⟨rfl, rfl, rfl⟩, by decide +kernel, rfl, rfl, ⟨rfl, rfl, rfl⟩, rfl, ⟨rfl, rfl, rfl⟩⟩

/-- The SOF is the first bit a line fault can fall on. -/
theorem test_premises_LineFaultAbortsTheFrame :
    Sending img ⟨⟨5, faultBody⟩, true⟩ (sendingAt faultBody 0) ∧ (frameBits ⟨5, faultBody⟩)[0]? = some false ∧
    (sendingAt faultBody 0).timer.captureAge = 0 * img.bitTime + img.bitTime / 2 :=
      ⟨⟨rfl, rfl, rfl⟩, by decide +kernel, rfl⟩

theorem test_premises_FrameCompleteFreesTheSlot :
    let s := { sendingAt faultBody 0 with timer := { grouped.timer with captureAge := 112 } }
    Sending img ⟨⟨5, faultBody⟩, true⟩ s ∧ s.timer.captureAge = frameLength ⟨5, faultBody⟩ * img.bitTime :=
      ⟨⟨rfl, rfl, rfl⟩, rfl⟩

theorem test_premises_ReceiverHuntsTakesAndRejectsStartBits :
    let settling := { calm with link := { calm.link with rx := .settle, idle := 40 } }
    let receiving := { calm with
      link := { calm.link with rx := .receiving, rxBits := [true] }, timer := { calm.timer with captureAge := 2 } }
    Configured img settling ∧ settling.link.rx = .settle ∧ 10 * img.bitTime ≤ settling.link.idle ∧
    calm.link.rx = .hunt ∧ 0 < img.bitTime ∧ receiving.link.rx = .receiving ∧
    receiving.link.tx ≠ .sending ∧ receiving.link.rxBits = [true] := by decide

/-- A failing CRC, found at its last bit, and a LEAVE of REASON 3, found at the end of the frame. -/
theorem test_premises_FrameErrorIsDiscarded :
    let covered := natBits 2 1 ++ natBits 4 2 ++ natBits 8 0 ++ natBits 2 3
    let reason3 := false :: (covered ++ natBits 8 (crc8 covered).toNat ++ [true, true])
    let s := fun (bits : List Bool) (age : Nat) => { calm with
      link := { calm.link with rx := .receiving, rxBits := bits }, timer := { calm.timer with captureAge := age } }
    judge (List.replicate 26 false) = .error 25 ∧
    (s (List.replicate 26 false) 102).timer.captureAge = 25 * img.bitTime + img.bitTime / 2 ∧
    judge reason3 = .error 27 ∧ kindBits (sampledKind reason3) = 27 ∧
    (s reason3 108).timer.captureAge = 27 * img.bitTime ∧
    Configured img (s reason3 108) ∧ (s reason3 108).link.rx = .receiving ∧ (s reason3 108).link.tx ≠ .sending ∧
    25 ≠ kindBits (sampledKind (List.replicate 26 false)) := by
  exact ⟨by decide +kernel, rfl, by decide +kernel, by decide +kernel, rfl, rfl, rfl, by decide, by decide +kernel⟩

/-- A member and a sender that is none. -/
theorem test_premises_LeaveFrameDepartsTheSender :
    let body : LeaveBody := ⟨3, .requested⟩
    AtFrameEnd img ⟨2, .leave body⟩ (atEnd ⟨2, .leave body⟩ active) ∧
    AtFrameEnd img ⟨9, .leave body⟩ (atEnd ⟨9, .leave body⟩ active) ∧
    (2 : Station) ≠ img.station ∧ inCurrent active 2 = true ∧ inCurrent active 9 = false :=
  ⟨frameEnd_of (by decide +kernel), frameEnd_of (by decide +kernel), by decide, rfl, rfl⟩

/-- A FAULT that trips, and one of no member. -/
theorem test_premises_FaultFrameMarksAndTrips :
    let body : FaultBody := ⟨.flta, true, 10⟩
    AtFrameEnd img ⟨2, .fault body⟩ (atEnd ⟨2, .fault body⟩ active) ∧
    AtFrameEnd img ⟨9, .fault body⟩ (atEnd ⟨9, .fault body⟩ active) ∧ (2 : Station) ≠ img.station ∧
    body.gtrip = true ∧ inCurrent active 2 = true ∧ inCurrent active 9 = false ∧ img.honourTrip = true ∧
    active.member.state = .active ∧ active.mon.latch = none :=
  ⟨frameEnd_of (by decide +kernel), frameEnd_of (by decide +kernel), by decide, rfl, rfl, rfl, rfl, rfl, rfl⟩

theorem test_premises_IgnoredPlanChangesNoRecord :
    let held := withPending (planOf 9 2) active
    AtFrameEnd img ⟨2, .plan (planOf 8 2)⟩ (atEnd ⟨2, .plan (planOf 8 2)⟩ held) ∧
    newer (planOf 8 2).epoch 9 = false ∧ (planOf 8 2).epoch ≠ 9 ∧
    AtFrameEnd img ⟨2, .plan (planOf 7 2)⟩ (atEnd ⟨2, .plan (planOf 7 2)⟩ active) ∧ newer (planOf 7 2).epoch 7 = false ∧
    AtFrameEnd img ⟨2, .plan ⟨8, 2, 0, 20⟩⟩ (atEnd ⟨2, .plan ⟨8, 2, 0, 20⟩⟩ active) ∧
    AtFrameEnd img ⟨2, .plan (planOf 7 2)⟩ (atEnd ⟨2, .plan (planOf 7 2)⟩ calm) ∧ calm.align.state = .free :=
  ⟨frameEnd_of (by decide +kernel), by decide, by decide, frameEnd_of (by decide +kernel), by decide,
    frameEnd_of (by decide +kernel), frameEnd_of (by decide +kernel), rfl⟩

/-- A plan in time, and one whose EFFSEQ is the own sequence; a holdoff that stops, and one that restarts; and an own
plan with repeats left that is replaced. -/
theorem test_premises_NewerPlanIsAdopted :
    let late : PlanRecord := ⟨8, 2, 0x0224#16, 10⟩
    let same : PlanRecord := ⟨8, 2, 0x0024#16, 20⟩
    let counting := { active with plan := { active.plan with holdoff := some 3 } }
    let s := atEnd ⟨2, .plan (planOf 8 2)⟩ active
    AtFrameEnd img ⟨2, .plan (planOf 8 2)⟩ s ∧ s.align.state ≠ .free ∧ (planOf 8 2).members ≠ 0 ∧
    s.plan.epoch = some 7 ∧ newer (planOf 8 2).epoch 7 = true ∧ s.plan.pending = none ∧
    (1 ≤ ((planOf 8 2).effSeq - s.timer.seq).toNat ∧ ((planOf 8 2).effSeq - s.timer.seq).toNat ≤ 127) ∧
    AtFrameEnd img ⟨2, .plan late⟩ (atEnd ⟨2, .plan late⟩ active) ∧ ¬(1 ≤ (late.effSeq - s.timer.seq).toNat) ∧
    AtFrameEnd img ⟨2, .plan same⟩ (atEnd ⟨2, .plan same⟩ counting) ∧
    desiredSet img (after (.plan 2 same) (atEnd ⟨2, .plan same⟩ counting)) = same.members ∧
    AtFrameEnd img ⟨2, .plan ⟨8, 2, 0x0220#16, 20⟩⟩ (atEnd ⟨2, .plan ⟨8, 2, 0x0220#16, 20⟩⟩
      { counting with roster := putAt counting.roster 9 { Entry.cleared with presence := .departed } }) ∧
    desiredSet img (after (.plan 2 ⟨8, 2, 0x0220#16, 20⟩) (atEnd ⟨2, .plan ⟨8, 2, 0x0220#16, 20⟩⟩
      { counting with roster := putAt counting.roster 9 { Entry.cleared with presence := .departed } })) ≠ 0x0220#16 ∧
    (let own : PlanRecord := ⟨8, 5, 0x0220#16, 20⟩
     let issued := { withPending own active with plan := { (withPending own active).plan with
       lastIssued := some own, repeats := 3 } }
     AtFrameEnd img ⟨2, .plan (planOf 9 2)⟩ (atEnd ⟨2, .plan (planOf 9 2)⟩ issued) ∧
       newer (planOf 9 2).epoch own.epoch = true ∧ some (planOf 9 2) ≠ issued.plan.lastIssued) := by
  exact ⟨frameEnd_of (by decide +kernel), by decide, by decide, rfl, by decide, rfl, by decide,
    frameEnd_of (by decide +kernel), by decide, frameEnd_of (by decide +kernel), by decide +kernel,
    frameEnd_of (by decide +kernel), by decide +kernel, frameEnd_of (by decide +kernel), by decide, by decide⟩

/-- A lower issuer in time, a lower issuer late, the same plan, and a higher issuer; and an own plan with repeats left
that a lower issuer replaces, by the same plan and by a different one. -/
theorem test_premises_RivalPlanIsSettledByIssuer :
    let late : PlanRecord := ⟨8, 2, 0x0224#16, 10⟩
    let other : PlanRecord := ⟨8, 2, 0x0024#16, 20⟩
    let s := withPending (planOf 8 3) active
    s.align.state ≠ .free ∧ s.plan.epoch = some 7 ∧ newer (planOf 8 2).epoch 7 = true ∧
    s.plan.pending = some (planOf 8 3) ∧
    AtFrameEnd img ⟨2, .plan (planOf 8 2)⟩ (atEnd ⟨2, .plan (planOf 8 2)⟩ s) ∧
    (planOf 8 2).members = (planOf 8 3).members ∧ (planOf 8 2).effSeq = (planOf 8 3).effSeq ∧
    AtFrameEnd img ⟨2, .plan other⟩ (atEnd ⟨2, .plan other⟩ s) ∧ other.members ≠ (planOf 8 3).members ∧
    other.issuer < (planOf 8 3).issuer ∧
    AtFrameEnd img ⟨2, .plan late⟩ (atEnd ⟨2, .plan late⟩ s) ∧ late.effSeq ≠ (planOf 8 3).effSeq ∧
    ¬(1 ≤ (late.effSeq - s.timer.seq).toNat) ∧
    AtFrameEnd img ⟨9, .plan ⟨8, 9, 0x0024#16, 20⟩⟩ (atEnd ⟨9, .plan ⟨8, 9, 0x0024#16, 20⟩⟩ s) ∧
    (planOf 8 3).issuer ≤ 9 ∧
    (let issued := { withPending (planOf 8 5) active with plan := { (withPending (planOf 8 5) active).plan with
       lastIssued := some (planOf 8 5), repeats := 3 } }
     AtFrameEnd img ⟨2, .plan (planOf 8 2)⟩ (atEnd ⟨2, .plan (planOf 8 2)⟩ issued) ∧
       AtFrameEnd img ⟨2, .plan other⟩ (atEnd ⟨2, .plan other⟩ issued) ∧ (planOf 8 2).issuer ≠ (planOf 8 5).issuer ∧
       some (planOf 8 2) ≠ issued.plan.lastIssued) := by
  exact ⟨by decide, rfl, by decide, rfl, frameEnd_of (by decide +kernel), rfl, rfl, frameEnd_of (by decide +kernel),
    by decide, by decide, frameEnd_of (by decide +kernel), by decide, by decide, frameEnd_of (by decide +kernel),
    by decide, frameEnd_of (by decide +kernel), frameEnd_of (by decide +kernel), by decide, by decide⟩

theorem test_premises_ActiveBeaconIsAdopted :
    let f : Frame := ⟨2, .beacon (beaconOf 41 700)⟩
    let s := atEnd f calm
    AtFrameEnd img f s ∧ AtFrameEnd img f (inState .listen s) ∧ s.align.state = .free ∧
    s.member.state = .detached ∧ (beaconOf 41 700).mstate = .active ∧ (beaconOf 41 700).cyclen.toNat = img.p ∧
    s.plan.pending = none :=
  ⟨frameEnd_of (by decide +kernel), frameEnd_of (by decide +kernel), rfl, rfl, rfl, rfl, rfl⟩

/-- The largest usable deviation of P 1000; the second row of R65; a member that lacks the pending plan; and a newer
epoch that the pending plan excuses, and one that a DETACHED station hears. -/
theorem test_premises_ReferenceBeaconIsMeasured :
    let b := beaconOf 10 250
    let f : Frame := ⟨2, .beacon b⟩
    let s := withCapture ⟨10, 752⟩ (atEnd f grouped)
    let alone := withCapture ⟨10, 752⟩ (atEnd f { grouped with plan := PlanCtl.reset })
    let relaying := withCapture ⟨10, 752⟩ (atEnd f (withPending (planOf 8 2) active))
    let newerB := { b with cepoch := 8 }
    let excused := withCapture ⟨10, 752⟩ (atEnd ⟨2, .beacon newerB⟩ (withPending (planOf 8 2) active))
    let untested := withCapture ⟨10, 752⟩ (atEnd ⟨2, .beacon newerB⟩ grouped)
    AtFrameEnd img f s ∧ s.align.state ≠ .free ∧ inCurrent s 2 = true ∧ b.mstate = .active ∧
    b.cyclen.toNat = img.p ∧ s.plan.epoch = some 7 ∧ newer b.cepoch 7 = false ∧
    (s.roster[(2 : Station)]).presence ≠ .departed ∧ deviationOf img ⟨10, 752⟩ 10 250 = 499 ∧
    2 * (499 : Int).natAbs < img.p ∧
    AtFrameEnd img f alone ∧ alone.plan.set = none ∧ alone.plan.epoch = none ∧ alone.align.state ≠ .free ∧
    AtFrameEnd img f relaying ∧ relaying.member.state = .active ∧ relaying.plan.relay = false ∧
    newer (planOf 8 2).epoch b.cepoch = true ∧ b.ppend = false ∧
    AtFrameEnd img ⟨2, .beacon newerB⟩ excused ∧ newer newerB.cepoch 7 = true ∧ excused.member.state = .active ∧
    (planOf 8 2).epoch = newerB.cepoch ∧ AtFrameEnd img ⟨2, .beacon newerB⟩ untested ∧
    untested.member.state = .detached := by
  exact ⟨frameEnd_of (by decide +kernel), by decide, rfl, rfl, rfl, rfl, by decide, by decide +kernel, by decide,
    by decide, frameEnd_of (by decide +kernel), rfl, rfl, by decide, frameEnd_of (by decide +kernel), rfl, rfl,
    by decide, rfl, frameEnd_of (by decide +kernel), by decide, rfl, rfl, frameEnd_of (by decide +kernel), rfl⟩

/-- Senders that are no reference senders: an EXCLUDED one, a DRAINING and a DEPARTED member, a SILENT one that reports
JOINING, a HEARD joiner, a foreign member of a set whose lowest number is the own set's, and a joiner heard by a FREE
station. -/
theorem test_premises_OtherBeaconsAreRecorded :
    let b := beaconOf 10 250
    let other : BeaconBody := { b with cyclen := 999 }
    let draining : BeaconBody := { b with mstate := .draining }
    let joining : BeaconBody := { b with mstate := .joining }
    let sent := fun (j : Station) (b : BeaconBody) (s : State) => atEnd ⟨j, .beacon b⟩ s
    let known := fun p : Presence => { active with roster := putAt active.roster 2 { Entry.cleared with presence := p } }
    AtFrameEnd img ⟨2, .beacon other⟩ (sent 2 other active) ∧ other.cyclen.toNat ≠ img.p ∧
    AtFrameEnd img ⟨2, .beacon draining⟩ (sent 2 draining active) ∧ inCurrent active 2 = true ∧
    AtFrameEnd img ⟨2, .beacon b⟩ (sent 2 b (known .departed)) ∧
    AtFrameEnd img ⟨2, .beacon joining⟩ (sent 2 joining (known .silent)) ∧
    AtFrameEnd img ⟨9, .beacon joining⟩ (sent 9 joining active) ∧ inCurrent active 9 = false ∧
    AtFrameEnd img ⟨9, .beacon b⟩ (sent 9 b active) ∧ b.lowest.toNat = (lowestOf 0x0024#16).val ∧
    AtFrameEnd img ⟨9, .beacon joining⟩ (sent 9 joining calm) ∧ calm.align.state = .free ∧
    calm.member.state = .detached ∧ active.plan.epoch = some 7 ∧ newer b.cepoch 7 = false ∧
    calm.plan.epoch = none := by
  exact ⟨frameEnd_of (by decide +kernel), by decide, frameEnd_of (by decide +kernel), rfl,
    frameEnd_of (by decide +kernel), frameEnd_of (by decide +kernel), frameEnd_of (by decide +kernel), rfl,
    frameEnd_of (by decide +kernel), by decide +kernel, frameEnd_of (by decide +kernel), rfl, rfl, rfl, by decide, rfl⟩

/-- The smallest deviation that is an outlier, as the second and the third one, of an ACTIVE, a DRAINING, a JOINING and
a DETACHED station, LOCKED and PULLING. -/
theorem test_premises_ThirdOutlierResyncs :
    let b := beaconOf 10 250
    let f : Frame := ⟨2, .beacon b⟩
    let s := fun (m : Membership) (a : AlignState) (streak : Nat) => withCapture ⟨10, 753⟩ (atEnd f
      (inState m { active with align := { active.align with state := a, outlierStreak := streak } }))
    AtFrameEnd img f (s .active .locked 2) ∧ AtFrameEnd img f (s .draining .locked 2) ∧
    AtFrameEnd img f (s .joining .pulling 2) ∧ AtFrameEnd img f (s .active .locked 1) ∧
    AtFrameEnd img f (s .detached .pulling 2) ∧ inCurrent (s .active .locked 2) 2 = true ∧
    ((s .active .locked 2).roster[(2 : Station)]).presence ≠ .departed ∧
    deviationOf img ⟨10, 753⟩ 10 250 = 500 ∧ (img.p : Int) ≤ 2 * (500 : Int).natAbs := by
  exact ⟨frameEnd_of (by decide +kernel), frameEnd_of (by decide +kernel), frameEnd_of (by decide +kernel),
    frameEnd_of (by decide +kernel), frameEnd_of (by decide +kernel), rfl, by decide +kernel, by decide, by decide⟩

/-- A stale epoch of a member seen by an ACTIVE station and by a JOINING one, one of a member that reports JOINING, and a
foreign member of a lower set seen by an ACTIVE station, each with the capture of its SOF edge and a usable deviation. -/
theorem test_premises_StaleEpochOrMergeResyncs :
    let stale : BeaconBody := { beaconOf 10 250 with cepoch := 8 }
    let lower : BeaconBody := { beaconOf 10 250 with lowest := 1 }
    let rejoining : BeaconBody := { stale with mstate := .joining }
    let s := fun (m : Membership) (f : Frame) => withCapture ⟨10, 253⟩ (atEnd f (inState m active))
    AtFrameEnd img ⟨2, .beacon stale⟩ (s .active ⟨2, .beacon stale⟩) ∧
    AtFrameEnd img ⟨2, .beacon stale⟩ (s .joining ⟨2, .beacon stale⟩) ∧
    AtFrameEnd img ⟨2, .beacon rejoining⟩ (s .draining ⟨2, .beacon rejoining⟩) ∧
    (active.roster[(2 : Station)]).presence ≠ .silent ∧
    AtFrameEnd img ⟨9, .beacon lower⟩ (s .active ⟨9, .beacon lower⟩) ∧
    (s .active ⟨2, .beacon stale⟩).timer.capture = some ⟨10, 253⟩ ∧ deviationOf img ⟨10, 253⟩ 10 250 = 0 ∧
    active.plan.set = some 0x0024#16 ∧ active.plan.epoch = some 7 ∧ active.plan.pending = none ∧
    active.align.state ≠ .free ∧ inCurrent active 2 = true ∧ (active.roster[(2 : Station)]).presence ≠ .departed ∧
    newer 8 7 = true ∧ inCurrent active 9 = false ∧ inSet 0x0024#16 9 = false ∧
    lower.lowest.toNat < (lowestOf 0x0024#16).val := by
  exact ⟨frameEnd_of (by decide +kernel), frameEnd_of (by decide +kernel), frameEnd_of (by decide +kernel),
    by decide +kernel, frameEnd_of (by decide +kernel), rfl, by decide, rfl, rfl, rfl, by decide, rfl, by decide +kernel,
    by decide, rfl, by decide, by decide +kernel⟩

/-- An ACTIVE station with requests waiting, a JOINING one in its window after an attempt, one in FAULTED and one in
DETACHED. -/
theorem test_premises_ClashDetachesTheStation :
    let f : Frame := ⟨5, faultBody⟩
    let waiting := { active with link := { active.link with
      tx := .defer, qFault := some ⟨⟨.flta, true⟩, 0⟩, qPlan := some ⟨planOf 8 5, 0⟩, qBeacon := some ⟨(), 0⟩ } }
    let joining := { grouped with member := ⟨.joining, none, some 3, none, 1, false⟩ }
    AtFrameEnd img f (atEnd f waiting) ∧ (atEnd f waiting).link.tx = .defer ∧ AtFrameEnd img f (atEnd f joining) ∧
    AtFrameEnd img f (atEnd f (inState .faulted active)) ∧ AtFrameEnd img f (atEnd f grouped) ∧
    grouped.member.state = .detached ∧ img.station = 5 ∧ (atEnd f active).member.state ≠ .unconfigured :=
  ⟨frameEnd_of (by decide +kernel), rfl, frameEnd_of (by decide +kernel), frameEnd_of (by decide +kernel),
    frameEnd_of (by decide +kernel), rfl, rfl, by decide⟩

/-- A phase point in its due cycle, and one in the cycle after a short one. -/
theorem test_premises_PhasePointTakesDemandWalksAndBegins :
    let early := atTick 50 { inState .active grouped with
      gen := { grouped.gen with phi := 950, dueSeq := 9 }, timer := { grouped.timer with prevLength := 900 } }
    Configured img active ∧ active.gen.hold = false ∧ active.gen.dueSeq = active.timer.seq ∧
    active.gen.phi = active.timer.counter ∧ active.timer.counter < active.timer.length ∧
    active.gen.interval = some .otb ∧ img.otbMin ≤ active.gen.age ∧ ¬Escalating img active ∧
    early.timer.seq = early.gen.dueSeq + 1 ∧ (atTick 50 early).gen.phi = 900 + 50 ∧
      early.gen.kind ≠ some .live := by decide +kernel

/-- One tick before OTBMIN, and at it; and a held point after which the next one has passed too: at its own tick in the
present cycle and one short of it, in the cycle before, and two cycles back. -/
theorem test_premises_EarlyPhasePointIsHeldAndThenTakenDark :
    let early := { active with gen := { active.gen with age := 99 } }
    let held := { active with gen := { active.gen with age := 100, hold := true } }
    Configured img early ∧ early.gen.kind = some .live ∧ early.gen.hold = false ∧ early.gen.age < img.otbMin ∧
    held.gen.hold = true ∧ held.gen.interval = some .otb ∧ img.otbMin ≤ held.gen.age ∧ ¬Escalating img held ∧
    (held.gen.walk img).dueSeq = held.timer.seq + 1 ∧
    (let behind := fun (due : Seq) (tick : Nat) =>
       atTick tick { held with gen := { held.gen with phi := 500, held := 600, dueSeq := due } }
     ¬Escalating img (behind 9 520) ∧ ((behind 9 520).gen.walk img).dueSeq = 10 ∧
     ((behind 9 520).gen.walk img).phi = 520 ∧ (behind 9 519).timer.counter < 520 ∧ 520 < (behind 9 520).timer.length ∧
     ((behind 8 0).timer.seq - ((behind 8 0).gen.walk img).dueSeq).toNat = 1 ∧
     ((behind 8 0).gen.walk img).phi ≤ (behind 8 0).timer.prevLength ∧
     ((behind 7 0).timer.seq - ((behind 7 0).gen.walk img).dueSeq).toNat = 2) := by decide +kernel

/-- The first cut cycle at CUTLIMIT 1, of an ACTIVE and of a DRAINING station; one of a latched station; and one at which
the LATCH line is due to qualify. -/
theorem test_premises_EscalatingPhasePointLatches :
    let s := { active with mon := { active.mon with a := { active.mon.a with cutMark := true } } }
    Configured img s ∧ s.gen.kind = some .live ∧ Escalating img s ∧ s.mon.latch = none ∧
      s.gen.phi = s.timer.counter ∧ Configured img (inState .draining s) ∧ Escalating img (inState .draining s) ∧
    (let latched := { inState .faulted s with mon := { s.mon with latch := some .fltb, latchForce := true } }
     let both := { s with mon := { s.mon with b := sampling 1 1 false } }
     Escalating img latched ∧ latched.mon.latch.isSome = true ∧ Escalating img both ∧ both.mon.latch = none ∧
     (img.line .fltb).mode = .latch ∧ (both.mon.line .fltb).phase = (img.line .fltb).sample ∧
     (both.mon.line .fltb).asserted = false ∧ (img.line .fltb).count ≤ (both.mon.line .fltb).runCount + 1) := by
    decide +kernel

/-- The example of spec/08: in a history of 64 an uncut entry leaves as a cut one joins, and the count rises from 2 to 3
(log 29); where a cut one leaves, it stays. -/
theorem test_cut_count_of_a_full_history :
    let uncut := List.replicate 62 (⟨false, false⟩ : CutEntry)
    let cut : CutEntry := ⟨true, false⟩
    cutCount (uncut ++ [cut, cut]) = 2 ∧ cutCount (joinHistory (uncut ++ [cut, cut]) cut) = 3 ∧
    cutCount (joinHistory (cut :: uncut ++ [cut]) cut) = 2 := by decide

/-- At CUTLIMIT 2 a LATCH line that qualifies at the escalating phase point makes LATCHES 2 in either order; a tick later
the emptied history judges the entry alone (R167, log 28). -/
theorem test_second_latch_in_either_order :
    let s := { active with
      loader := { active.loader with config := some { img with cutLimit := 2 } }
      mon := { active.mon with
        a := { active.mon.a with cutMark := true }
        b := sampling 1 1 false
        history := [⟨true, false⟩] } }
    let sampled := after (.lineSample .fltb .high) s
    (after .phasePoint sampled).mon.latches = 2 ∧ (after .phasePoint sampled).mon.latch = some .fltb ∧
    (after (.lineSample .fltb .high) (after .phasePoint s)).mon.latches = 2 ∧
    (after (.lineSample .fltb .high) (after .phasePoint s)).mon.latch = some .escalate ∧
    sampled.mon.emptied = [⟨true, false⟩] ∧ sampled.mon.tick.emptied = [] ∧
    (after .phasePoint { sampled with mon := { sampled.mon with emptied := [] } }).mon.latches = 1 := by decide +kernel

theorem test_premises_IntervalsRunInOrderAndMarkEnds :
    let g := active.gen
    let s := { active with gen := { g with interval := some .dta, age := 25 } }
    let marked := { calm with gen := { calm.gen with markCount := 1 } }
    Configured img s ∧ s.gen.age = img.dta ∧ ({ g with interval := some .ota, age := 821 } : Gen).age = g.otaEff ∧
    ({ g with interval := some .dtb, age := 25 } : Gen).age = img.dtb ∧ g.markCount = 0 ∧
    Configured img marked ∧ marked.gen.markCount = 1 ∧ dueNow marked = none := by decide +kernel

/-- The ticks of a dominant bit and of a recessive one of a frame in flight, the tick after its last bit, and a station
that sends nothing. -/
theorem test_premises_OutputPinsFollowTheirConditions :
    let s := sendingAt faultBody 0
    let aged := fun n : Nat => { s with timer := { s.timer with captureAge := n } }
    s.loader.config = some img ∧ s.link.inFlight = some ⟨⟨5, faultBody⟩, true⟩ ∧
    (frameBits ⟨5, faultBody⟩)[0]? = some false ∧ drivesPb (aged 3) = true ∧ pbRecessive (aged 3) = false ∧
    (frameBits ⟨5, faultBody⟩)[27]? = some true ∧ drivesPb (aged 108) = false ∧ pbRecessive (aged 108) = true ∧
    (frameBits ⟨5, faultBody⟩).length * img.bitTime = 112 ∧ drivesPb (aged 112) = false ∧
    calm.link.inFlight = none ∧ pbRecessive { calm with line := [false] } = false ∧
    sdoDriven { calm with port := { calm.port with txn := .opened 0 } } = true ∧ sdoDriven calm = false ∧
    cfgReleased reading = false ∧ cfgReleased calm = true := by decide +kernel

theorem test_premises_LineSampleQualifiesTheLine :
    Configured img active ∧ (sampling 4 0 false).phase = (img.line .flta).sample ∧
    (sampling 1 0 false).phase = (img.line .fltb).sample ∧ (sampling 1 0 false).runCount + 1 < (img.line .fltb).count ∧
    (img.line .fltb).count ≤ (sampling 1 1 true).runCount + 1 ∧ (sampling 1 1 true).asserted = true := by decide +kernel

theorem test_premises_QualifiedLineActsByItsMode :
    let s := { active with mon := { active.mon with a := sampling 4 0 false, b := sampling 1 1 false } }
    Configured img s ∧ (s.mon.line .flta).phase = (img.line .flta).sample ∧ (img.line .flta).mode = .cut ∧
    (img.line .flta).count ≤ (s.mon.line .flta).runCount + 1 ∧ s.gen.kind = some .live ∧
    (s.mon.line .fltb).phase = (img.line .fltb).sample ∧ (img.line .fltb).mode = .latch ∧
    (img.line .fltb).count ≤ (s.mon.line .fltb).runCount + 1 ∧ s.mon.latch = none := by decide +kernel

/-- The port takes transactions: the premise of the statements about it. -/
theorem test_premises_PortReady :
    PortReady calm ∧ PortReady active ∧ PortReady reading ∧ PortReady (inState .faulted active) :=
  ⟨⟨rfl, by decide⟩, ⟨rfl, by decide⟩, ⟨rfl, by decide⟩, ⟨rfl, by decide⟩⟩

/-- A due silence limit at the roster's reader, and a start number at the table's end. -/
theorem test_premises_RosterReadShiftsOutEntries :
    let s := { active with roster := putAt active.roster 2 { Entry.cleared with presence := .member, silence := 6 } }
    PortReady s ∧ silenceDue img s 2 = true ∧ inCurrent s 2 = true ∧
    agrees (byteBits [0x04#8]) ((byteBits [0x04#8, 0x0F#8]).take 15) = true :=
  ⟨⟨rfl, by decide⟩, by decide +kernel, rfl, by decide +kernel⟩

/-- A transaction before the rise of CP_CS#, and one that ends a bit early. -/
theorem test_premises_EventsReadAndClearKeepsLaterRaises :
    let s := after (.eventsReadAndClear ⟨true, byteBits [0x05#8, 0xFF#8, 0xFF#8], false, false⟩) (raise .cut calm)
    s.port.txn = .opened 2 ∧ s.port.request = some 0x05#8 ∧
    s.port.sdi = byteBits (0x05#8 :: 0xFF#8 :: 0xFF#8 :: []) ∧ s.port.marks = 0x0100#16 ∧
    agrees (byteBits [0x05#8]) ((byteBits [0x05#8, 0xFF#8, 0xFF#8]).take 23) = true := by decide +kernel

/-- The last bit that leaves the two data bytes incomplete. -/
theorem test_premises_DemandWriteStagesTwelveBits :
    PortReady calm ∧ ((byteBits [0x11#8, 0x0F#8, 0xFF#8]).take 23).length < 24 ∧
    agrees (byteBits [0x11#8]) ((byteBits [0x11#8, 0x0F#8, 0xFF#8]).take 23) = true :=
  ⟨⟨rfl, by decide⟩, by decide +kernel, by decide +kernel⟩

theorem test_premises_MaskWriteAndUndefinedRequests :
    PortReady calm ∧ WellFormed.undefinedRequest 0x00#8 (whole [0x00#8]) = true ∧
    WellFormed.undefinedRequest 0x21#8 (whole [0x21#8, 0x05#8]) = true ∧
    agrees (byteBits [0x12#8]) ((byteBits [0x12#8, 0x0F#8, 0xFF#8]).take 23) = true :=
  ⟨⟨rfl, by decide⟩, by decide +kernel, by decide +kernel, by decide +kernel⟩

/-- A cut inside byte 0, with the falling edge before it and after it. -/
theorem test_premises_TransactionInPiecesIsTheWholeOne :
    (∃ t, exec (.statusRead ⟨true, [false, false], true, false⟩) calm = .next t) ∧
    agrees (byteBits [0x01#8]) ([false, false] ++ [false, false, false]) = true ∧
    ([false, false, false] : List Bool) ≠ [] ∧ PortReady calm ∧ ([false, false, true] : List Bool).length < 16 :=
  ⟨⟨_, rfl⟩, by decide, by decide, ⟨rfl, by decide⟩, by decide⟩

/-- A sole member, a member among others, and the states of a JOIN. -/
theorem test_premises_JoinAndLeaveCommandsFollowTheState :
    let sole := { inState .active grouped with plan := { grouped.plan with set := some 0x0020#16 } }
    PortReady sole ∧ Configured img sole ∧ sole.member.state = .active ∧
    sole.plan.set = some (1#16 <<< img.station.val) ∧ sole.plan.pending = none ∧
    active.plan.set ≠ some (1#16 <<< img.station.val) ∧ calm.member.state = .detached ∧ calm.align.state = .free ∧
    grouped.member.state = .detached ∧ grouped.align.state ≠ .free ∧ reading.member.state = .unconfigured := by
  exact ⟨⟨rfl, by decide⟩, rfl, rfl, rfl, rfl, by decide, rfl, rfl, rfl, by decide, rfl⟩

theorem test_premises_ClearFaultAndRestartCommands :
    let s := inState .faulted active
    PortReady s ∧ Configured img s ∧ s.member.state = .faulted ∧ s.mon.a.asserted = false ∧
      s.mon.b.asserted = false := ⟨⟨rfl, by decide⟩, rfl, rfl, rfl, rfl⟩

/-- `active` meets every invariant, also while it receives, and steps. -/
theorem test_premises_invariants :
    LatchSound active ∧ TimerSound active ∧ GroupSound active ∧ TransmitSound active ∧
    TransmitSound (atEnd ⟨2, faultBody⟩ active) ∧ GateSound active ∧ ∃ t, step active = .next t := by
  have load : LoadSound active := ⟨by decide, by decide⟩
  refine ⟨⟨load, by decide⟩, ⟨load, nofun, ?_, by decide, by decide, by decide, ?_, fun _ => by decide, by decide⟩,
    ⟨fun _ => rfl, by decide, ?_, ?_⟩, ⟨load, by decide, by decide, by decide, by decide, ?_, by decide, by decide, ?_⟩,
    ⟨⟨by decide, by decide⟩, by decide, by decide, by decide, by decide, ?_, by decide, fun _ => rfl, ?_⟩,
    ⟨load, by decide, by decide, by decide, by decide⟩, _, rfl⟩
  · intro c h; cases h; decide
  · intro c h; cases h; decide
  · intro c h; cases h; rfl
  · intro c h _; cases h; exact ⟨_, rfl, by decide⟩
  · intro f h; cases h
  · exact ⟨nofun, nofun, nofun, nofun⟩
  · intro f h; cases h
  · exact ⟨nofun, nofun, nofun, nofun⟩

end Sys2Proof.Tests
end

/-! ### Frames read back (R19, R20, R32, R33) -/

namespace Sys2Proof.Machine

/-! #### Runs of bits as numbers -/

/-- The bits of a number, most significant first, by their places. -/
theorem natBits_eq_map_testBit (w n : Nat) :
    natBits w n = (List.range w).map fun i => n.testBit (w - 1 - i) := by
  induction w with
  | zero => rfl
  | succ w ih =>
    have places : ∀ i, w - 1 - i = w - (i + 1) := by omega
    simp [natBits, ih, List.range_succ_eq_map, places]

/-- A flag is a field of one bit (R19). -/
theorem natBits_one_toNat (b : Bool) : natBits 1 b.toNat = [b] := by
  cases b <;> rfl

/-- Reading on from equal numbers tells runs of one length apart. -/
theorem foldl_bits_inj {a b : List Bool} (hlen : a.length = b.length) {m n : Nat}
    (h : a.foldl (fun acc x => 2 * acc + x.toNat) m = b.foldl (fun acc x => 2 * acc + x.toNat) n) :
    m = n ∧ a = b := by
  induction a generalizing b m n with
  | nil =>
    obtain rfl := List.length_eq_zero_iff.mp hlen.symm
    exact ⟨h, rfl⟩
  | cons x a ih =>
    cases b with
    | nil => simp at hlen
    | cons y b =>
      obtain ⟨hhead, htail⟩ := ih (Nat.succ.inj hlen) h
      have hhead : 2 * m + x.toNat = 2 * n + y.toNat := hhead
      have hx := x.toNat_lt
      have hy := y.toNat_lt
      have hnat : x.toNat = y.toNat := by omega
      have hxy : x = y := by simpa only [Bool.ofNat_toNat] using congrArg Bool.ofNat hnat
      exact ⟨by omega, by rw [hxy, htail]⟩

/-- A run of bits is the bits of a number of its width exactly when it spells that number. -/
theorem natBits_eq_iff {w n : Nat} {bits : List Bool} (hn : n < 2 ^ w) (hlen : bits.length = w) :
    natBits w n = bits ↔ n = bitsNat bits := by
  have spelled : bitsNat (natBits w n) = n := by rw [bitsNat_natBits, Nat.mod_eq_of_lt hn]
  constructor
  · rintro rfl
    exact spelled.symm
  · intro h
    exact (foldl_bits_inj (by rw [length_natBits, hlen]) (spelled.trans h)).2

/-! #### Fields at their positions (R19) -/

/-- A field that lies after a part of the bits is a field of the rest. -/
theorem field_append_of_le {a : List Bool} {pos : Nat} (h : a.length ≤ pos) (b : List Bool) (len : Nat) :
    field (a ++ b) pos len = field b (pos - a.length) len := by
  simp only [field, List.drop_append, List.drop_eq_nil_of_le h, List.nil_append]

/-- The field right after a part of the bits. -/
theorem field_append_length (a : List Bool) (w n : Nat) (rest : List Bool) :
    field (a ++ (natBits w n ++ rest)) a.length w = n % 2 ^ w := by
  simp [field]

theorem field_cons_succ (b : Bool) (bits : List Bool) (pos len : Nat) :
    field (b :: bits) (pos + 1) len = field bits pos len := rfl

/-- A number that stands first is read back modulo its width. -/
theorem field_natBits_zero (w n : Nat) (rest : List Bool) : field (natBits w n ++ rest) 0 w = n % 2 ^ w :=
  field_append_length [] w n rest

/-- A later field is read past a number. -/
theorem field_natBits_of_le {w pos : Nat} (h : w ≤ pos) (n : Nat) (rest : List Bool) (len : Nat) :
    field (natBits w n ++ rest) pos len = field rest (pos - w) len := by
  rw [field_append_of_le (by rwa [length_natBits]), length_natBits]

/-! #### Codes

The receiver reads a code modulo the width of its field, and takes it for what was sent. -/

theorem kindOfCode_kindCode_mod (k : FrameKind) : kindOfCode (kindCode k % 2 ^ 2) = k := by cases k <;> rfl

theorem originOfCode_originCode_mod (o : Origin) : originOfCode (originCode o % 2 ^ 2) = o := by cases o <;> rfl

theorem reasonOfCode_reasonCode_mod (r : LeaveReason) : reasonOfCode (reasonCode r % 2 ^ 2) = some r := by
  cases r <;> rfl

theorem reportedOfCode_reportedCode_mod (m : Reported) :
    reportedOfCode (reportedCode m % 2 ^ 2) = some m := by
  cases m <;> rfl

theorem toNat_mod_two_beq_one (b : Bool) : (b.toNat % 2 == 1) = b := by cases b <;> rfl

theorem stationOfNat_val_mod (j : Station) : stationOfNat (j.val % 2 ^ 4) = j := by
  apply Fin.ext
  simp [stationOfNat, Nat.mod_eq_of_lt j.isLt]

/-! #### The receiver on the bits of a frame -/

/-- The shortest frame is a LEAVE (R19). -/
theorem le_kindBits (k : FrameKind) : 27 ≤ kindBits k := by cases k <;> decide

theorem sampledKind_frameBits (f : Frame) : sampledKind (frameBits f) = bodyKind f.body := by
  simp [-Nat.reducePow, sampledKind, frameBits, coveredBits, List.append_assoc, field_cons_succ, field_natBits_zero,
    kindOfCode_kindCode_mod]

theorem sampledSrc_frameBits (f : Frame) : stationOfNat (field (frameBits f) 3 4) = f.src := by
  simp [-Nat.reducePow, frameBits, coveredBits, field_cons_succ, field_natBits_of_le, field_natBits_zero,
    stationOfNat_val_mod]

/-- The bits of a frame from its body on. -/
theorem frameBits_eq_bodyBits (f : Frame) : frameBits f = false :: (natBits 2 (kindCode (bodyKind f.body)) ++
    (natBits 4 f.src.val ++ (bodyBits f.body ++ (natBits 8 (crc8 (coveredBits f)).toNat ++ [true, true])))) := by
  simp only [frameBits, coveredBits, List.append_assoc]

/-- The body is read back field by field at the positions of the table of R19. -/
theorem sampledBody_frameBits (f : Frame) : sampledBody (frameBits f) = some f.body := by
  unfold sampledBody
  rw [sampledKind_frameBits]
  rcases f with ⟨src, b | b | b | b⟩ <;>
    simp [-Nat.reducePow, bodyKind, frameBits_eq_bodyBits, bodyBits, field_cons_succ, field_natBits_of_le,
      field_natBits_zero, originOfCode_originCode_mod, reasonOfCode_reasonCode_mod, reportedOfCode_reportedCode_mod,
      toNat_mod_two_beq_one, stationOfNat_val_mod]

/-- A frame in the three parts that the receiver checks: what the CRC covers, the CRC, and the EOF. -/
theorem frameBits_eq_append (f : Frame) :
    frameBits f = (false :: coveredBits f) ++ (natBits 8 (crc8 (coveredBits f)).toNat ++ [true, true]) := by
  simp [frameBits]

/-- The receiver's CRC runs over the covered bits (R20). -/
theorem take_drop_frameBits (f : Frame) : ((frameBits f).drop 1).take (frameLength f - 11) = coveredBits f := by
  rw [show frameLength f - 11 = (coveredBits f).length by have := length_coveredBits f; omega]
  simp [frameBits]

/-- The CRC field holds the register (R20). -/
theorem field_crc_frameBits (f : Frame) :
    field (frameBits f) (frameLength f - 10) 8 = (crc8 (coveredBits f)).toNat := by
  rw [show frameLength f - 10 = (false :: coveredBits f).length by
    have := length_coveredBits f; simp only [List.length_cons]; omega,
    frameBits_eq_append, field_append_length]
  exact Nat.mod_eq_of_lt (crc8 (coveredBits f)).isLt

/-- Both EOF bits are recessive (R19). -/
theorem field_eof_frameBits (f : Frame) {back : Nat} (hback : back = 1 ∨ back = 2) :
    field (frameBits f) (frameLength f - back) 1 = 1 := by
  have hlen := length_coveredBits f
  rw [frameBits_eq_append, field_append_of_le (by simp only [List.length_cons]; omega),
    field_natBits_of_le (by simp only [List.length_cons]; omega)]
  rcases hback with rfl | rfl
  · rw [show frameLength f - 1 - (false :: coveredBits f).length - 8 = 1 by simp only [List.length_cons]; omega]
    rfl
  · rw [show frameLength f - 2 - (false :: coveredBits f).length - 8 = 0 by simp only [List.length_cons]; omega]
    rfl

/-- The receiver takes the bits of a frame and reads that frame (R32, R33). -/
theorem judge_frameBits (f : Frame) : judge (frameBits f) = .valid f := by
  have hn : kindBits (sampledKind (frameBits f)) = frameLength f := by rw [sampledKind_frameBits]; rfl
  have hlen := length_frameBits f
  unfold judge
  simp only [hn]
  rw [if_neg (by omega), if_neg (by rw [take_drop_frameBits, field_crc_frameBits]; simp), if_neg (by omega),
    if_neg (by simp [field_eof_frameBits]), if_neg (by omega), if_neg (by simp [field_eof_frameBits]),
    sampledBody_frameBits, sampledSrc_frameBits]

/-- At the last CRC bit the receiver fails a frame exactly when its register is not the received field (R33). The later
checks fail at later positions. -/
theorem judge_eq_crcError_iff {bits : List Bool} (hlen : kindBits (sampledKind bits) - 2 ≤ bits.length) :
    judge bits = .error (kindBits (sampledKind bits) - 3) ↔
      (crc8 ((bits.drop 1).take (kindBits (sampledKind bits) - 11))).toNat ≠
        field bits (kindBits (sampledKind bits) - 10) 8 := by
  have hn := le_kindBits (sampledKind bits)
  unfold judge
  generalize kindBits (sampledKind bits) = n at *
  rw [if_neg (by omega)]
  split
  case isTrue hcrc => exact iff_of_true rfl hcrc
  case isFalse hcrc =>
    refine iff_of_false (fun later => ?_) hcrc
    split_ifs at later
    · injection later; omega
    · injection later; omega
    · cases hbody : sampledBody bits with
      | none => rw [hbody] at later; injection later; omega
      | some body => rw [hbody] at later; cases later

/-- R20's register, with its feedback from bit 7. -/
theorem crc8_eq_foldl_getLsbD (bits : List Bool) : crc8 bits = bits.foldl
    (fun (reg : BitVec 8) bit => if (reg.getLsbD 7 ^^ bit) then (reg <<< 1) ^^^ 0x2F#8 else reg <<< 1) 0xFF#8 := by
  have hstep : crcStep 0x2F#8 = fun (reg : BitVec 8) bit =>
      if (reg.getLsbD 7 ^^ bit) then (reg <<< 1) ^^^ 0x2F#8 else reg <<< 1 := by
    funext reg bit
    rw [crcStep, BitVec.msb_eq_getLsbD_last]
  rw [crc8, hstep]

/-- Settles O28: the layout field by field, the round trip by `judge_frameBits`, and the CRC check by
`judge_eq_crcError_iff`, as eight bits are the register's exactly when they spell it. -/
theorem everyFrameIsReadBackWhole : Obligations.EveryFrameIsReadBackWhole := by
  unfold Obligations.EveryFrameIsReadBackWhole
  intro crc sent num origin reason mstate covered
  have hcrc : ∀ bits, crc bits = crc8 bits := fun bits => (crc8_eq_foldl_getLsbD bits).symm
  have hnum : ∀ w v, num w v = natBits w v := fun w v => (natBits_eq_map_testBit w v).symm
  have hsent : ∀ v : BitVec 8, sent v = natBits 8 v.toNat := fun v => (natBits_eq_map_testBit 8 v.toNat).symm
  have hmembers : ∀ m : BitVec 16, (List.range 16).map (fun i => m.getLsbD (15 - i)) = natBits 16 m.toNat :=
    fun m => (natBits_eq_map_testBit 16 m.toNat).symm
  have horigin : ∀ o, origin o = originCode o := fun o => by cases o <;> rfl
  have hreason : ∀ r, reason r = reasonCode r := fun r => by cases r <;> rfl
  have hmstate : ∀ m, mstate m = reportedCode m := fun m => by cases m <;> rfl
  have hcovered : ∀ f, covered f = coveredBits f := by
    rintro ⟨src, b | b | b | b⟩ <;>
      simp only [covered, coveredBits, bodyBits, bodyKind, kindCode, hnum, hmembers, horigin, hreason, hmstate,
        natBits_one_toNat, List.append_assoc]
  refine ⟨fun f => ⟨judge_frameBits f, ?_, ?_⟩, ?_⟩
  · rw [hcovered, hcrc, hsent, frameBits]
    simp only [List.cons_append, List.nil_append, List.append_assoc]
  · rw [length_frameBits]
    rcases f with ⟨src, b | b | b | b⟩ <;> rfl
  · intro bits n hlen
    have hfield : ((bits.drop (n - 10)).take 8).length = 8 := by
      have : 27 ≤ n := le_kindBits _
      simp only [List.length_take, List.length_drop]
      omega
    rw [hcrc, hsent, Ne, natBits_eq_iff (BitVec.isLt _) hfield]
    exact judge_eq_crcError_iff hlen

end Sys2Proof.Machine

/-! ### The image at its check (R176 to R178, R184) -/

namespace Sys2Proof.Machine

/-! #### The image CRC (R177) -/

/-- The bits of bytes by their places, most significant first. -/
theorem byteBits_eq_flatMap_getLsbD (bytes : List Byte) :
    byteBits bytes = bytes.flatMap fun b => (List.range 8).map fun i => b.getLsbD (7 - i) := by
  simp only [byteBits, natBits_eq_map_testBit, BitVec.testBit_toNat]

/-- A step of a CRC register of any width, with its feedback from the top bit. -/
theorem crcStep_eq_getLsbD {w : Nat} (poly : BitVec w) :
    crcStep poly = fun (reg : BitVec w) bit =>
      if (reg.getLsbD (w - 1) ^^ bit) then (reg <<< 1) ^^^ poly else reg <<< 1 := by
  funext reg bit
  rw [crcStep, BitVec.msb_eq_getLsbD_last]

/-- R177's register, with its feedback from bit 15. -/
theorem crc16_eq_foldl_getLsbD (bytes : List Byte) :
    crc16 bytes = (bytes.flatMap fun b => (List.range 8).map fun i => b.getLsbD (7 - i)).foldl
      (fun (reg : BitVec 16) bit =>
        if (reg.getLsbD 15 ^^ bit) then (reg <<< 1) ^^^ 0x1021#16 else reg <<< 1) 0xFFFF#16 := by
  rw [crc16, crcStep_eq_getLsbD, byteBits_eq_flatMap_getLsbD]

/-- Two bytes, high byte first, spell a word exactly when they are its halves. -/
theorem toNat_eq_bytes_iff (v : BitVec 16) (high low : Byte) :
    v.toNat = 256 * high.toNat + low.toNat ↔ high = v.extractLsb' 8 8 ∧ low = v.extractLsb' 0 8 := by
  have hv := v.isLt
  have hhigh := high.isLt
  have hlow := low.isLt
  simp only [← BitVec.toNat_inj, BitVec.extractLsb'_toNat, Nat.shiftRight_eq_div_pow]
  omega

/-- The CRC check compares bytes 30 and 31 with the halves of the register (R177). -/
theorem crcMatches_iff (image : List Byte) :
    crcMatches image = true ↔ image.getD 30 0 = (crc16 (image.take 30)).extractLsb' 8 8 ∧
      image.getD 31 0 = (crc16 (image.take 30)).extractLsb' 0 8 := by
  rw [← toNat_eq_bytes_iff, crcMatches, beq_iff_eq]
  rfl

/-! #### Fields within a byte (R176) -/

theorem within_eq_decide (lo hi x : Nat) : within lo hi x = decide (lo ≤ x ∧ x ≤ hi) :=
  (Bool.decide_and _ _).symm

/-- A field at the bottom of its byte. -/
theorem bitsAt_zero (image : List Byte) (i len : Nat) : bitsAt image i 0 len = byteAt image i % 2 ^ len := by
  simp [bitsAt]

/-- A field at the top of its byte. -/
theorem bitsAt_top (image : List Byte) (i : Nat) {low len : Nat} (h : low + len = 8) :
    bitsAt image i low len = byteAt image i / 2 ^ low := by
  refine Nat.mod_eq_of_lt (Nat.div_lt_of_lt_mul ?_)
  rw [← pow_add, h]
  exact (image.getD i 0).isLt

/-- BEACONINT's code goes up to 5, and bits 7 to 4 of byte 4 are reserved (R176). -/
theorem beaconIntCheck_eq (image : List Byte) :
    (decide (bitsAt image 4 0 3 ≤ 5) && bitsAt image 4 4 4 == 0) =
      (decide (0 ≤ byteAt image 4 % 8 ∧ byteAt image 4 % 8 ≤ 5) && decide (byteAt image 4 / 16 = 0)) := by
  rw [bitsAt_zero, bitsAt_top image 4 rfl]
  simp [beq_eq_decide]

/-- Bits 7 and 6 of CUTLIMIT's byte are reserved (R176). -/
theorem cutLimitCheck_eq (image : List Byte) :
    (bitsAt image 16 6 2 == 0) = decide (byteAt image 16 / 64 = 0) := by
  rw [bitsAt_top image 16 rfl, beq_eq_decide]
  rfl

/-- INITTRIM's code 80h is not accepted (R176). -/
theorem initTrimCheck_eq (image : List Byte) : (byteAt image 17 != 0x80) = decide (byteAt image 17 ≠ 128) := by
  rw [bne, beq_eq_decide, decide_not]

/-! #### What IMAGE_CHECK does (R177, R178, R183, R184) -/

/-- A station that reads its image has it judged. -/
theorem exec_imageCheck_of_reading {s : State} (hload : s.loader.load = .reading) (pulses : Nat) (image : List Byte) :
    exec (.imageCheck pulses image) s = .next (judgeImage image { s with loader := s.loader.fill pulses image }) := by
  change execImageCheck pulses image s = _
  rw [execImageCheck, if_pos hload]

theorem judgeImage_of_badCrc {image : List Byte} (hcrc : ¬crcMatches image = true) (s : State) :
    judgeImage image s = refuse .badCrc none s := by
  simp [judgeImage, hcrc]

theorem judgeImage_of_badField {image : List Byte} (hcrc : crcMatches image = true) {index : Nat}
    (hfail : firstFailure image = some index) (s : State) :
    judgeImage image s = refuse .badField (some index) s := by
  simp [judgeImage, hcrc, hfail]

theorem judgeImage_of_sound {image : List Byte} (hcrc : crcMatches image = true)
    (hfail : firstFailure image = none) (s : State) : judgeImage image s = accept (imageOf image) s := by
  simp [judgeImage, hcrc, hfail]

/-- A refusal leaves the image read, the diagnosis and CONFIG_ERROR, and nothing else (R184). -/
theorem refuse_filled (cause : DiagCause) (index : Option Nat) (pulses : Nat) (image : List Byte) (s : State) :
    refuse cause index { s with loader := s.loader.fill pulses image } = { s with
      loader := { s.loader with
        load := .refused
        buffer := image
        wire := readWire pulses image
        diag := ⟨cause, index, s.loader.diag.attempts⟩ }
      port := { s.port with flags := s.port.flags ||| 0x8000#16, marks := s.port.marks &&& 0x7FFF#16 } } := rfl

/-- The JOIN path leaves the ceiling alone. -/
theorem joinPath_gen_ceiling (s : State) : (joinPath s).gen.ceiling = s.gen.ceiling := by
  unfold joinPath
  split <;> rw [moveTo_gen] <;> split <;> rfl

/-- Acceptance puts the image in force, with or without AUTOJOIN (R183). -/
theorem accept_loader (c : Image) (s : State) :
    (accept c s).loader = { s.loader with load := .accepted, config := some c } := by
  unfold accept
  split
  · exact joinPath_loader _
  · rfl

/-- Acceptance fixes the ceiling, with or without AUTOJOIN (R146, R183). -/
theorem accept_gen_ceiling (c : Image) (s : State) :
    (accept c s).gen.ceiling = (ceilingOf c.p c.corrMax c.walkStep c.dta c.dtb c.otbMin).toNat := by
  unfold accept
  split
  · exact joinPath_gen_ceiling _
  · rfl

/-- Settles O7: the spelled-out CRC and checks are the model's by `crcMatches_iff` and the lemmas on fields, and each
of the three outcomes of the judgement is one equation. -/
theorem badImageIsRefused : Obligations.BadImageIsRefused := by
  unfold Obligations.BadImageIsRefused
  intro s pulses image hload bits crc sound byte word ceiling within' checks first refusedWith
  have hsound : sound ↔ crcMatches image = true := by
    rw [crcMatches_iff, crc16_eq_foldl_getLsbD]
  have hchecks : fieldChecks image = checks := by
    rw [fieldChecks, beaconIntCheck_eq, cutLimitCheck_eq, initTrimCheck_eq]
    simp only [within_eq_decide]
    rfl
  have hfirst : firstFailure image = first := by
    rw [firstFailure, hchecks]
  have hexec := exec_imageCheck_of_reading hload pulses image
  have hrefused : ∀ cause index,
      judgeImage image { s with loader := s.loader.fill pulses image } =
        refuse cause index { s with loader := s.loader.fill pulses image } → refusedWith cause index :=
    fun cause index h => ⟨_, hexec, by rw [h, refuse_filled]⟩
  refine ⟨fun hbad => ?_, fun index hgood hfail => ?_, fun hgood hnone => ?_⟩
  · exact hrefused _ _ (judgeImage_of_badCrc (mt hsound.mpr hbad) _)
  · exact hrefused _ _ (judgeImage_of_badField (hsound.mp hgood) (hfirst.trans hfail) _)
  · refine ⟨_, hexec, ?_⟩
    rw [judgeImage_of_sound (hsound.mp hgood) (hfirst.trans hnone), accept_loader, accept_gen_ceiling]
    exact ⟨rfl, rfl, rfl⟩

end Sys2Proof.Machine

/-! ### What a step can do to the parts that the invariants speak of -/

namespace Sys2Proof.Machine

open Sys2Proof.Safety

/-- The part of a state that the invariants of the latch, the timer, the allocation and the transmitter read. -/
structure View where
  trim : Int
  acc : Int
  trimTick : Int
  length : Nat
  counter : Nat
  atEnd : Bool
  capture : Option TimePair
  qFault : Option (Slot FaultRequest)
  qLeave : Option (Slot LeaveReason)
  qPlan : Option (Slot PlanRecord)
  qBeacon : Option (Slot Unit)
  tx : TxState
  inFlight : Option InFlight
  rx : RxState
  membership : Membership
  set : Option StationSet
  place : Option Place
  latch : Option Origin
  load : LoadState
  config : Option Image

/-- What the invariants read of a state. -/
def State.view (s : State) : View where
  trim := s.timer.trim
  acc := s.timer.acc
  trimTick := s.timer.trimTick
  length := s.timer.length
  counter := s.timer.counter
  atEnd := s.timer.atEnd
  capture := s.timer.capture
  qFault := s.link.qFault
  qLeave := s.link.qLeave
  qPlan := s.link.qPlan
  qBeacon := s.link.qBeacon
  tx := s.link.tx
  inFlight := s.link.inFlight
  rx := s.link.rx
  membership := s.member.state
  set := s.plan.set
  place := s.plan.place
  latch := s.mon.latch
  load := s.loader.load
  config := s.loader.config

/-- The elementary changes of the link with its capture (R9, R23 to R31). -/
inductive LinkChange (c : Image) : Link → Option TimePair → Link → Option TimePair → Prop
  | requestFault {l cap} (r : FaultRequest) : LinkChange c l cap (l.requestFault r) cap
  | requestLeave {l cap} (r : LeaveReason) : LinkChange c l cap (l.requestLeave r) cap
  | requestPlan {l cap} (r : PlanRecord) : LinkChange c l cap (l.requestPlan r) cap
  | requestBeacon {l cap} : LinkChange c l cap l.requestBeacon cap
  | withdrawBeacon {l cap} : LinkChange c l cap l.withdrawBeacon cap
  | withdrawPlan {l cap} : LinkChange c l cap l.withdrawPlan cap
  | launch {l cap} (s : State) (body : FrameBody) (pair : TimePair) (own : s.link = l) (due : launchDue c s = true)
      (formed : arbitrate c s = some body) : LinkChange c l cap (l.launch ⟨c.station, body⟩) (some pair)
  | yield {l cap} (f : InFlight) (bit : Nat) (flight : l.inFlight = some f) : LinkChange c l cap (l.yield f bit) cap
  | lineFault {l cap} (f : InFlight) (flight : l.inFlight = some f) : LinkChange c l cap (l.lineFault f) none
  | complete {l cap} (f : InFlight) (flight : l.inFlight = some f) : LinkChange c l cap (l.complete f) cap
  | listen {l cap} (next : RxState) (cap' : Option TimePair) (free : l.tx ≠ .sending) (leaves : next ≠ .receiving) :
      LinkChange c l cap { l with rx := next } cap'
  | hunt {l cap} (settled : l.rx = .settle) : LinkChange c l cap { l with rx := .hunt } cap
  | follow {l cap} (pair : TimePair) (hunting : l.rx = .hunt) :
      LinkChange c l cap { l with rx := .receiving } (some pair)

/-- The elementary changes that a configured station can make to what the invariants read. -/
inductive Change (c : Image) : State → State → Prop
  | frame {s t} (same : t.view = s.view) : Change c s t
  | trimBy {s} (step : Int) : Change c s { s with timer := s.timer.trimBy step }
  | turn {s} : Change c s { s with timer := s.timer.turn }
  | limit {s} (m : Membership) (start : s.timer.counter = 0) : Change c s { s with timer := s.timer.limit c m }
  | coarse {s} (b : BeaconBody) : Change c s { s with timer := s.timer.coarse c b }
  | tick {s} : Change c s { s with timer := s.timer.tick }
  | link {s} {l : Link} {cap : Option TimePair} (change : LinkChange c s.link s.timer.capture l cap) :
      Change c s { s with link := l, timer := { s.timer with capture := cap } }
  | leave {s} (next : Membership) (free : s.member.state ≠ .faulted)
      (outside : next = .detached ∨ next = .listen ∨ next = .joining) :
      Change c s { s with member := { s.member with state := next } }
  | drain {s} (active : s.member.state = .active) : Change c s { s with member := { s.member with state := .draining } }
  | activate {s} (m : StationSet) (free : s.member.state ≠ .faulted) (held : s.plan.set = some m)
      (own : inSet m c.station = true) : Change c s { s with member := { s.member with state := .active } }
  | latch {s} (o : Origin) :
      Change c s { s with member := { s.member with state := .faulted }, mon := { s.mon with latch := some o } }
  | unlatch {s} :
      Change c s { s with member := { s.member with state := .detached }, mon := { s.mon with latch := none } }
  | allocate {s} (m : StationSet) (own : inGroup s.member.state = true → inSet m c.station = true) :
      Change c s { s with plan := { s.plan with set := some m, place := placeIn c.p m c.station } }
  | deallocate {s} (outside : inGroup s.member.state = false) :
      Change c s { s with plan := { s.plan with set := none, place := none } }

/-- Everything that a configured station can do to what the invariants read: elementary changes, one after another. -/
abbrev Evolves (c : Image) : State → State → Prop :=
  Relation.ReflTransGen (Change c)

/-! #### Composing changes -/

theorem evolves_frame {c : Image} {s t : State} (h : t.view = s.view) : Evolves c s t :=
  .single (.frame h)

/-- What the invariants do not read may change beside any evolution. -/
theorem evolves_then_frame {c : Image} {s t u : State} (h : Evolves c s t) (hu : u.view = t.view) : Evolves c s u :=
  h.tail (.frame hu)

/-- What the invariants do not read may change before any evolution. -/
theorem evolves_after_frame {c : Image} {s t u : State} (h : Evolves c t u) (ht : t.view = s.view) : Evolves c s u :=
  h.head (.frame ht)

theorem Change.evolves {c : Image} {s t u : State} (h : Change c s t) (hu : u.view = t.view) : Evolves c s u :=
  evolves_then_frame (.single h) hu

theorem Change.loader {c : Image} {s t : State} (h : Change c s t) :
    t.loader.load = s.loader.load ∧ t.loader.config = s.loader.config := by
  cases h with
  | frame same => exact ⟨congrArg View.load same, congrArg View.config same⟩
  | _ => exact ⟨rfl, rfl⟩

/-- An evolution of the link that leaves the capture alone. -/
theorem evolves_link {c : Image} {s t : State} {l : Link}
    (h : LinkChange c s.link s.timer.capture l s.timer.capture) (ht : t.view = { s with link := l }.view) :
    Evolves c s t :=
  (Change.link h).evolves ht

/-! #### Membership, latch and resync -/

/-- Leaving ACTIVE and entering a state stop what no invariant reads. -/
theorem view_moveTo (next : Membership) (s : State) :
    (moveTo next s).view = { s with member := { s.member with state := next }, link := s.link.withdrawFor next }.view := by
  unfold moveTo Link.enterState Member.enter
  split_ifs <;> rfl

/-- The withdrawals of a state that is entered (R24). -/
theorem evolves_withdrawFor (c : Image) (s : State) (m : Membership) :
    Evolves c s { s with link := s.link.withdrawFor m } := by
  have hb : Evolves c s { s with link := s.link.withdrawBeacon } := evolves_link .withdrawBeacon rfl
  have hp : Evolves c s { s with link := s.link.withdrawBeacon.withdrawPlan } :=
    hb.trans (evolves_link (s := { s with link := s.link.withdrawBeacon }) .withdrawPlan rfl)
  cases m with
  | unconfigured | faulted => exact hb
  | detached | listen => exact hp
  | joining | active | draining => exact .refl

/-- A change of membership state together with the withdrawals it brings. -/
theorem evolves_moveTo_of_change {c : Image} {s t : State} {next : Membership}
    (h : Change c s t) (ht : t.link = s.link)
    {u : State} (hu : u.view = { t with link := s.link.withdrawFor next }.view) : Evolves c s u := by
  have hw := evolves_withdrawFor c t next
  rw [ht] at hw
  exact evolves_then_frame (.head h hw) hu

theorem evolves_moveTo {c : Image} {s : State} (next : Membership) (free : s.member.state ≠ .faulted)
    (outside : next = .detached ∨ next = .listen ∨ next = .joining) : Evolves c s (moveTo next s) :=
  evolves_moveTo_of_change (.leave next free outside) rfl (view_moveTo next s)

theorem evolves_joinPath {c : Image} {s : State} (free : s.member.state ≠ .faulted) : Evolves c s (joinPath s) := by
  unfold joinPath
  split_ifs
  · exact evolves_moveTo _ free (.inr (.inl rfl))
  · exact evolves_moveTo _ free (.inr (.inr rfl))

/-- A first latch, for the invariants (R166). -/
theorem view_latch_first {o : Origin} {g : Bool} {s : State} (h : s.mon.latch = none) :
    (Machine.latch o g s).view = { s with
      link := (if inGroup s.member.state then s.link.requestFault ⟨o, g⟩ else s.link).withdrawFor .faulted
      member := { s.member with state := .faulted }
      mon := { s.mon with latch := some o } }.view := by
  rw [latch_first h, view_moveTo]
  split_ifs <;> rfl

/-- A second latch counts; a first one queues its FAULT and makes the station FAULTED (R166, R167). -/
theorem evolves_latch (c : Image) (o : Origin) (g : Bool) (s : State) : Evolves c s (Machine.latch o g s) := by
  cases hl : s.mon.latch with
  | some p => rw [latch_second (by simp [hl])]; exact evolves_frame rfl
  | none =>
    have hq : Evolves c s { s with link := if inGroup s.member.state then s.link.requestFault ⟨o, g⟩ else s.link } := by
      split_ifs
      · exact evolves_link (.requestFault _) rfl
      · exact .refl
    exact hq.trans (evolves_moveTo_of_change (.latch o) rfl (view_latch_first hl))

/-- A resync queues its LEAVE, enters LISTEN and clears the plan records (R106). -/
theorem evolves_resync {c : Image} {s : State} (free : s.member.state ≠ .faulted) : Evolves c s (resync s) := by
  let s1 := { s with link := if inGroup s.member.state then s.link.requestLeave .resync else s.link }
  have hq : Evolves c s s1 := by
    unfold s1
    split_ifs
    · exact evolves_link (.requestLeave _) rfl
    · exact .refl
  have hm : Evolves c s1 (moveTo .listen s1) := evolves_moveTo _ free (.inr (.inl rfl))
  refine (hq.trans hm).trans (Change.evolves (.deallocate rfl) ?_)
  unfold resync
  rw [show ∀ e t, (raise e t).view = t.view from fun _ _ => rfl, view_moveTo]
  unfold s1
  split_ifs <;> simp only [State.view, moveTo] <;> rfl

/-! #### The gate -/

theorem evolves_enterCycle (c : Image) (s : State) : Evolves c s (enterCycle c s) := by
  unfold enterCycle
  dsimp only
  split_ifs
  · exact evolves_after_frame (evolves_latch c _ _ _) rfl
  · exact evolves_frame rfl

theorem view_endForces (c : Image) (live : Bool) (s : State) : (endForces c live s).view = s.view := by
  unfold endForces
  dsimp only
  split_ifs <;> rfl

theorem evolves_takePhasePoint (c : Image) (wasHeld : Bool) (s : State) : Evolves c s (takePhasePoint c wasHeld s) := by
  have hg : ∀ g : Gen, Evolves c s { takeDemand s with gen := g } := fun g => by
    rw [takeDemand_eq]
    exact evolves_frame rfl
  unfold takePhasePoint beginCycle notice
  refine evolves_then_frame ?_ (view_endForces c _ _)
  split_ifs
  · exact (hg _).trans (evolves_enterCycle c _)
  · exact hg _

theorem evolves_reachPhasePoint (c : Image) (s : State) : Evolves c s (reachPhasePoint c s) := by
  unfold reachPhasePoint
  split_ifs
  · exact evolves_frame rfl
  · exact evolves_takePhasePoint c false s

theorem evolves_takeHeld (c : Image) (s : State) : Evolves c s (takeHeld c s) := by
  unfold takeHeld
  dsimp only
  split_ifs
  · exact (evolves_takePhasePoint c true s).trans (evolves_takePhasePoint c false _)
  · exact evolves_takePhasePoint c true s

theorem evolves_jump (c : Image) (s : State) : Evolves c s (jump c s) := by
  unfold jump
  dsimp only
  split_ifs
  · exact evolves_after_frame (evolves_reachPhasePoint c _) rfl
  · exact evolves_frame rfl

/-- The entry to ACTIVE of a station that the current set holds (R86, R94, R149). -/
theorem evolves_enterActive {c : Image} {s : State} {m : StationSet} (free : s.member.state ≠ .faulted)
    (held : s.plan.set = some m) (own : inSet m c.station = true) : Evolves c s (enterActive c s) := by
  have ha : Evolves c s { s with member := s.member.enter .active } :=
    Change.evolves (.activate m free held own) rfl
  unfold enterActive
  refine Relation.ReflTransGen.trans ?_ (evolves_jump c _)
  split_ifs with h0
  · exact ha.tail (.limit .active h0)
  · exact ha

/-! #### Alignment and roster -/

theorem view_lockWork (c : Image) (m : Int) (s : State) : (lockWork c m s).view = s.view := by
  unfold lockWork lockPulling lockLocked
  dsimp only
  split <;> (try split_ifs) <;> rfl

theorem view_alignBoundary (c : Image) (had : Bool) (ended : Int) (s : State) :
    (alignBoundary c had ended s).view = s.view := by
  unfold alignBoundary
  dsimp only
  split_ifs
  · rfl
  · exact view_lockWork c _ _
  · rfl

theorem view_takeSilence (c : Image) (j : Station) (s : State) : (takeSilence c j s).view = s.view := by
  unfold takeSilence
  split_ifs <;> rfl

theorem evolves_adopt (c : Image) (b : BeaconBody) (s : State) : Evolves c s (adopt c b s) := by
  have hc : Evolves c s { coarseStep c b s with
      align := (coarseStep c b s).align.adopt, plan := { (coarseStep c b s).plan with epoch := some b.cepoch } } :=
    Change.evolves (.coarse b) rfl
  unfold adopt
  dsimp only
  split_ifs with hl
  · exact hc.trans (evolves_moveTo _ (by rw [hl]; decide) (.inr (.inr rfl)))
  · exact hc

theorem evolves_takeOutlier (c : Image) (s : State) : Evolves c s (takeOutlier s) := by
  unfold takeOutlier
  dsimp only
  split_ifs with h
  · refine evolves_after_frame (evolves_resync ?_) rfl
    intro hf
    have hf : s.member.state = .faulted := hf
    simp [hf, resyncState] at h
  · exact evolves_frame rfl

theorem evolves_alignBeacon (c : Image) (j : Station) (p : Presence) (b : BeaconBody) (s : State) :
    Evolves c s (alignBeacon c j p b s) := by
  have hm : Evolves c s (measure c j p b s) := by
    unfold measure
    split
    · exact .refl
    · dsimp only
      split_ifs
      · exact evolves_frame rfl
      · exact evolves_takeOutlier c s
      · exact .refl
  unfold alignBeacon
  split_ifs
  · exact evolves_adopt c b s
  · exact hm

/-! #### Plans -/

theorem view_evaluate (c : Image) (s : State) : (evaluate c s).view = s.view := by
  unfold evaluate
  split_ifs <;> rfl

theorem view_reevaluate (c : Image) (s : State) : (reevaluate c s).view = s.view := by
  unfold reevaluate
  split <;> rfl

/-- The end of the repeats changes their count alone (R127). -/
theorem view_endRepeats (s : State) (p : PlanCtl) :
    { s with plan := p.endRepeats }.view = { s with plan := p }.view := by
  unfold PlanCtl.endRepeats
  split_ifs <;> rfl

theorem evolves_planRest (c : Image) (s : State) : Evolves c s (planRest c s) := by
  have hr : Evolves c (clearRelay s) (repeatIssued (clearRelay s)) := by
    unfold repeatIssued
    split
    · exact evolves_frame (view_endRepeats _ _)
    · split_ifs
      · exact evolves_link (.requestPlan _) rfl
      · exact evolves_frame (view_endRepeats _ _)
  exact evolves_then_frame (evolves_after_frame hr rfl) (view_evaluate c _)

theorem evolves_takeIssue (c : Image) (s : State) : Evolves c s (takeIssue c s) := by
  unfold takeIssue
  split_ifs
  · exact .refl
  · exact evolves_frame rfl
  · exact evolves_link (.requestPlan _) rfl
  · exact evolves_frame rfl

theorem evolves_relay (c : Image) (p : Presence) (b : BeaconBody) (s : State) : Evolves c s (relay p b s) := by
  unfold relay
  split
  · exact .refl
  · split_ifs
    · exact evolves_link (.requestPlan _) rfl
    · exact .refl

theorem view_adoptPlan (c : Image) (r : PlanRecord) (s : State) : (adoptPlan c r s).view = s.view :=
  (view_reevaluate c _).trans (view_endRepeats s _)

theorem view_judgePlan (c : Image) (r : PlanRecord) (s : State) : (judgePlan c r s).view = s.view := by
  have hs : ∀ h, (settleEqual c r h s).view = s.view := by
    intro h
    unfold settleEqual
    dsimp only
    split_ifs
    · rfl
    · exact view_endRepeats s _
    · exact view_adoptPlan c r _
    · rfl
  unfold judgePlan
  split
  · rfl
  · split_ifs
    · rfl
    · split
      · exact view_adoptPlan c r s
      · split_ifs
        · exact hs _
        · exact view_adoptPlan c r s
        · rfl

theorem view_handTarget (s : State) : (handTarget s).view = s.view := by
  unfold handTarget
  split <;> rfl

theorem view_soleMemberLock (c : Image) (r : PlanRecord) (s : State) : (soleMemberLock c r s).view = s.view := by
  unfold soleMemberLock
  split_ifs <;> rfl

end Sys2Proof.Machine

/-! ### The timer at the works of a boundary -/

namespace Sys2Proof.Machine

open Sys2Proof.Safety

/-- Only the correction and the length of the cycle may differ (R4, R5). -/
def SameTurn (s t : State) : Prop :=
  t.timer = { s.timer with corr := t.timer.corr, length := t.timer.length }

theorem sameTurn_of_timer {s t : State} (h : t.timer = s.timer) : SameTurn s t := by
  unfold SameTurn
  rw [h]

theorem SameTurn.trans {s t u : State} (hst : SameTurn s t) (htu : SameTurn t u) : SameTurn s u := by
  unfold SameTurn at *
  rw [htu, hst]

@[simp] theorem enterCycle_timer (c : Image) (s : State) : (enterCycle c s).timer = s.timer := by
  unfold enterCycle
  dsimp only
  split_ifs <;> simp

@[simp] theorem takePhasePoint_timer (c : Image) (wasHeld : Bool) (s : State) :
    (takePhasePoint c wasHeld s).timer = s.timer := by
  unfold takePhasePoint beginCycle notice
  rw [takeDemand_eq]
  split_ifs <;> simp

@[simp] theorem reachPhasePoint_timer (c : Image) (s : State) : (reachPhasePoint c s).timer = s.timer := by
  unfold reachPhasePoint
  split_ifs <;> simp

@[simp] theorem jump_timer (c : Image) (s : State) : (jump c s).timer = s.timer := by
  unfold jump
  dsimp only
  split_ifs <;> simp

/-- An entry to ACTIVE limits the correction of the cycle that begins there (R4, R94; log 24). -/
theorem enterActive_timer (c : Image) (s : State) :
    (enterActive c s).timer = if s.timer.counter = 0 then s.timer.limit c .active else s.timer := by
  unfold enterActive
  rw [jump_timer]

theorem sameTurn_enterActive (c : Image) (s : State) : SameTurn s (enterActive c s) := by
  unfold SameTurn
  rw [enterActive_timer]
  split_ifs <;> rfl

@[simp] theorem lockWork_timer (c : Image) (m : Int) (s : State) : (lockWork c m s).timer = s.timer := by
  unfold lockWork lockPulling lockLocked
  dsimp only
  split <;> (try split_ifs) <;> rfl

theorem sameTurn_alignBoundary (c : Image) (had : Bool) (ended : Int) (s : State) :
    SameTurn s (alignBoundary c had ended s) := by
  unfold alignBoundary SameTurn
  dsimp only
  split_ifs
  · rfl
  · simp [handCorrection]
  · rfl

@[simp] theorem repeatIssued_timer (s : State) : (repeatIssued s).timer = s.timer := by
  unfold repeatIssued
  split <;> (try split_ifs) <;> rfl

@[simp] theorem evaluate_timer (c : Image) (s : State) : (evaluate c s).timer = s.timer := by
  unfold evaluate
  split_ifs <;> rfl

@[simp] theorem planRest_timer (c : Image) (s : State) : (planRest c s).timer = s.timer := by
  simp [planRest]

@[simp] theorem handTarget_timer (s : State) : (handTarget s).timer = s.timer := by
  unfold handTarget
  split <;> rfl

@[simp] theorem soleMemberLock_timer (c : Image) (r : PlanRecord) (s : State) :
    (soleMemberLock c r s).timer = s.timer := by
  unfold soleMemberLock
  split_ifs <;> rfl

theorem sameTurn_applyMembership (c : Image) (own : Bool) (s : State) : SameTurn s (applyMembership c own s) := by
  unfold applyMembership
  split
  · exact sameTurn_enterActive c s
  all_goals rfl

theorem sameTurn_applyPlan (c : Image) (r : PlanRecord) (s : State) : SameTurn s (applyPlan c r s) := by
  unfold applyPlan
  dsimp only
  refine SameTurn.trans ?_ (sameTurn_of_timer (soleMemberLock_timer c r _))
  refine SameTurn.trans ?_ (sameTurn_applyMembership c _ _)
  exact sameTurn_of_timer (by simp)

theorem sameTurn_takeApply (c : Image) (s : State) : SameTurn s (takeApply c s) := by
  unfold takeApply
  split
  · rfl
  · split_ifs
    · exact (sameTurn_applyPlan c _ s).trans (sameTurn_of_timer (planRest_timer c _))
    · rfl

theorem sameTurn_takeListenEnd (c : Image) (s : State) : SameTurn s (takeListenEnd c s) := by
  unfold takeListenEnd found
  split_ifs
  · refine SameTurn.trans ?_ (sameTurn_enterActive c _)
    exact sameTurn_of_timer (by simp)
  · rfl

/-- No work of a boundary changes the timer but for the correction and the length of the new cycle (R3, R4, R5). -/
theorem sameTurn_takeWork (c : Image) (had : Bool) (ended : Int) (w : BoundaryWork) (s : State) :
    SameTurn s (takeWork c had ended w s) := by
  cases w with
  | alignment => exact sameTurn_alignBoundary c had ended s
  | beaconSchedule => rfl
  | planWork => unfold takeWork; dsimp only; split_ifs <;> exact sameTurn_of_timer (by simp)
  | silence => rfl
  | apply => exact sameTurn_takeApply c s
  | listenEnd => exact sameTurn_takeListenEnd c s
  | joinEnd => unfold takeWork takeJoinEnd; dsimp only; split_ifs <;> rfl
  | drainEnd => unfold takeWork takeDrainEnd; dsimp only; split_ifs <;> rfl
  | phasePoint => unfold takeWork; dsimp only; split_ifs <;> exact sameTurn_of_timer (by simp)

/-- What every work of a boundary keeps, all of them keep. -/
theorem takeWorks_induction {c : Image} {had : Bool} {ended : Int} {P : State → Prop}
    (hw : ∀ w s, P s → P (takeWork c had ended w s)) (works : List BoundaryWork) {s : State} (hs : P s) :
    P (takeWorks c had ended works s) := by
  have hstep : ∀ (acc : Bool × State) w, P acc.2 → P (workStep c had ended acc w).2 := by
    intro acc w hacc
    unfold workStep
    split_ifs
    · exact hacc
    · exact hw w _ hacc
  have hfold : ∀ (acc : Bool × State), P acc.2 → P (works.foldl (workStep c had ended) acc).2 := by
    intro acc hacc
    induction works generalizing acc with
    | nil => exact hacc
    | cons w works ih => exact ih _ (hstep acc w hacc)
  exact hfold (false, s) hs

theorem sameTurn_takeWorks (c : Image) (had : Bool) (ended : Int) (works : List BoundaryWork) (s : State) :
    SameTurn s (takeWorks c had ended works s) :=
  takeWorks_induction (P := SameTurn s) (fun w _ ht => ht.trans (sameTurn_takeWork c had ended w _)) works rfl

end Sys2Proof.Machine

/-! ### The works of a boundary, the link and the frames of peers as evolutions -/

namespace Sys2Proof.Machine

open Sys2Proof.Safety

/-! #### Works of a boundary -/

/-- A set holds its one station. -/
theorem inSet_only (j : Station) : inSet (only j) j = true := by
  revert j
  decide

/-- The place of a sole member (R92, R115). -/
theorem placeIn_only (p : Nat) (j : Station) : placeIn p (only j) j = some ⟨0, 1, 0⟩ := by
  have hplace : rankOf (only j) j = 0 ∧ sizeOf (only j) = 1 := by
    revert j
    decide
  simp [placeIn, inSet_only, hplace.1, hplace.2]

/-- The membership at an apply, of a state whose plan records are in force already: a station that leaves does so as if
before them (R94, R99 to R101). -/
theorem evolves_applyMembership {c : Image} {s t : State} {m : StationSet} (hlink : t.link = s.link)
    (ht : t.view = { s with plan := { s.plan with set := some m, place := placeIn c.p m c.station } }.view) :
    Evolves c s (applyMembership c (inSet m c.station) t) := by
  have hstate : t.member.state = s.member.state := congrArg View.membership ht
  have hstay (h : inGroup s.member.state = true → inSet m c.station = true) : Evolves c s t :=
    Change.evolves (.allocate m h) ht
  have hleave (hfree : s.member.state ≠ .faulted) : Evolves c s (moveTo .detached t) := by
    refine (evolves_moveTo .detached hfree (.inl rfl)).trans (Change.evolves (.allocate m nofun) ?_)
    rw [view_moveTo]
    simp only [State.view, View.mk.injEq] at ht ⊢
    simp [ht, hlink, Member.enter]
  unfold applyMembership
  rw [hstate]
  cases hs : s.member.state <;> cases hown : inSet m c.station
  case joining.true =>
    exact (hstay fun _ => hown).trans (evolves_then_frame
      (evolves_enterActive (by simp [hstate, hs]) (congrArg View.set ht) hown) rfl)
  case active.false => exact evolves_then_frame (hleave (by simp [hs])) rfl
  case draining.false => exact evolves_then_frame (hleave (by simp [hs])) rfl
  all_goals exact hstay (by simp [hs, hown, inGroup])

theorem handTarget_link (s : State) : (handTarget s).link = s.link := by
  unfold handTarget
  split <;> rfl

theorem evolves_applyPlan (c : Image) (r : PlanRecord) (s : State) : Evolves c s (applyPlan c r s) := by
  unfold applyPlan
  dsimp only
  refine evolves_then_frame (evolves_then_frame ?_ (view_soleMemberLock c r _)) rfl
  refine evolves_applyMembership ?_ ?_
  · exact handTarget_link _
  · exact view_handTarget _

theorem evolves_takeApply (c : Image) (s : State) : Evolves c s (takeApply c s) := by
  unfold takeApply
  split
  · exact .refl
  · split_ifs
    · exact (evolves_applyPlan c _ s).trans (evolves_planRest c _)
    · exact .refl

/-- Founding takes the set of the own station alone (R92). -/
theorem evolves_takeListenEnd (c : Image) (s : State) : Evolves c s (takeListenEnd c s) := by
  unfold takeListenEnd
  split_ifs with hdue
  · have hs : s.member.state = .listen := by
      simp only [listenDue, Bool.and_eq_true, beq_iff_eq] at hdue
      exact hdue.1.1
    have hfound : Evolves c s { s with plan := s.plan.found c.station } :=
      Change.evolves (.allocate (only c.station) fun _ => inSet_only c.station) (by
        rw [placeIn_only]
        rfl)
    have henter : ∀ u : State, u.view = { s with plan := s.plan.found c.station }.view →
        Evolves c s (enterActive c u) := fun u hu =>
      (evolves_then_frame hfound hu).trans
        (evolves_enterActive (by rw [show u.member.state = s.member.state from congrArg View.membership hu, hs]; decide)
          (congrArg View.set hu) (inSet_only c.station))
    let taken := handTarget { s with plan := s.plan.found c.station }
    exact evolves_then_frame (henter (raise .lockGained { taken with align := taken.align.found }) (view_handTarget _)) rfl
  · exact .refl

theorem evolves_takeJoinEnd (c : Image) (s : State) : Evolves c s (takeJoinEnd c s) := by
  unfold takeJoinEnd
  split_ifs with hdue
  · exact .refl
  · exact evolves_frame rfl
  · exact evolves_frame rfl
  · have hs : s.member.state = .joining := by
      simp only [joinDue, Bool.not_eq_true, Bool.not_eq_false', Bool.and_eq_true, beq_iff_eq] at hdue
      exact hdue.1
    exact evolves_then_frame (evolves_moveTo .detached (by simp [hs]) (.inl rfl)) rfl

theorem evolves_takeDrainEnd (c : Image) (s : State) : Evolves c s (takeDrainEnd c s) := by
  unfold takeDrainEnd
  split_ifs with hdue
  · have hs : s.member.state = .draining := by
      simp only [drainDue, Bool.and_eq_true, beq_iff_eq] at hdue
      exact hdue.1
    exact evolves_then_frame (evolves_moveTo .detached (by simp [hs]) (.inl rfl)) rfl
  · exact .refl

theorem evolves_takeWork (c : Image) (had : Bool) (ended : Int) (w : BoundaryWork) (s : State) :
    Evolves c s (takeWork c had ended w s) := by
  cases w with
  | alignment => exact evolves_frame (view_alignBoundary c had ended s)
  | beaconSchedule => exact evolves_frame rfl
  | planWork =>
    unfold takeWork
    dsimp only
    split_ifs
    · exact .refl
    · exact evolves_planRest c s
  | silence => exact evolves_frame rfl
  | apply => exact evolves_takeApply c s
  | listenEnd => exact evolves_takeListenEnd c s
  | joinEnd => exact evolves_takeJoinEnd c s
  | drainEnd => exact evolves_takeDrainEnd c s
  | phasePoint =>
    unfold takeWork
    dsimp only
    split_ifs
    · exact evolves_reachPhasePoint c s
    · exact .refl

/-- The boundary: the turn, its works, and the length of the cycle that begins at counter 0 (R3, R4). -/
theorem evolves_boundary (c : Image) (order : List BoundaryWork) (s : State) : Evolves c s (boundary c order s) := by
  have hturn : Evolves c s (Machine.turn c s) := Change.evolves .turn rfl
  have hworks := takeWorks_induction (P := Evolves c s)
    (fun w t ht => ht.trans (evolves_takeWork c (hasTimebase s) s.timer.corr w t)) (workOrder order) hturn
  have hzero : (takeWorks c (hasTimebase s) s.timer.corr (workOrder order) (Machine.turn c s)).timer.counter = 0 := by
    rw [sameTurn_takeWorks c (hasTimebase s) s.timer.corr (workOrder order) (Machine.turn c s)]
    rfl
  exact hworks.tail (.limit _ hzero)

theorem evolves_takeTrimEnd (c : Image) (s : State) : Evolves c s (takeTrimEnd s) := by
  unfold takeTrimEnd
  split_ifs
  · exact Change.evolves (.trimBy (signStep s.align.windowSum)) rfl
  · exact .refl

/-! #### The link -/

theorem evolves_beaconNow (c : Image) (s : State) : Evolves c s (beaconNow s) := by
  unfold beaconNow
  dsimp only
  split_ifs
  · exact evolves_link .requestBeacon rfl
  · exact evolves_frame rfl

theorem evolves_launchNow {c : Image} {s : State} (due : launchDue c s = true) : Evolves c s (launchNow c s) := by
  unfold launchNow
  split
  · exact .refl
  · rename_i body hbody
    exact Change.evolves (.link (.launch s body ⟨s.timer.seq, s.timer.counter⟩ rfl due hbody)) rfl

theorem evolves_yieldNow (c : Image) (y : YieldSample) (s : State) : Evolves c s (yieldNow c y s) := by
  unfold yieldNow
  split
  · exact .refl
  · rename_i f hf
    dsimp only
    split_ifs <;> exact evolves_link (.yield f y.bit hf) rfl

theorem evolves_lineFaultNow (c : Image) (s : State) : Evolves c s (lineFaultNow s) := by
  unfold lineFaultNow
  split
  · exact .refl
  · rename_i f hf
    exact Change.evolves (.link (.lineFault f hf)) rfl

theorem evolves_completeNow (c : Image) (s : State) : Evolves c s (completeNow s) := by
  unfold completeNow
  split
  · exact .refl
  · rename_i f hf
    exact evolves_link (.complete f hf) rfl

theorem evolves_enterHuntNow {c : Image} {s : State} (h : huntDue c s = true) : Evolves c s (enterHuntNow s) := by
  simp only [huntDue, Bool.and_eq_true, beq_iff_eq] at h
  exact evolves_link (.hunt h.1) rfl

theorem evolves_takeDominant (c : Image) (s : State) : Evolves c s (takeDominant s) := by
  unfold takeDominant
  split
  · rename_i h
    exact Change.evolves (.link (.follow ⟨s.timer.seq, s.timer.counter⟩ h)) rfl
  all_goals exact evolves_frame rfl

theorem evolves_takeEdge (c : Image) (bits : List Bool) (s : State) : Evolves c s (takeEdge c bits s) := by
  unfold takeEdge
  dsimp only
  split_ifs
  · exact evolves_frame rfl
  · exact evolves_after_frame (evolves_takeDominant c _) rfl

/-- A receiver that follows a frame does so of another station. -/
theorem tx_of_following {s : State} (h : following s = true) : s.link.tx ≠ .sending := by
  simp only [following, Bool.and_eq_true, bne_iff_ne] at h
  exact h.2

theorem following_of_glitchDue {s : State} (h : glitchDue s = true) : following s = true := by
  simp only [glitchDue, Bool.and_eq_true] at h
  exact h.1

theorem following_of_errorDue {c : Image} {s : State} (h : errorDue c s = true) : following s = true := by
  unfold errorDue at h
  split at h
  · simp only [Bool.and_eq_true] at h
    exact h.1
  · cases h
  · cases h

theorem following_of_frameEnded {c : Image} {s : State} {f : Frame} (h : frameEnded c s = some f) :
    following s = true := by
  unfold frameEnded at h
  split at h
  · split_ifs at h with hf
    exact hf.1
  · cases h
  · cases h

theorem evolves_glitchNow {c : Image} {s : State} (h : following s = true) : Evolves c s (glitchNow s) :=
  Change.evolves (.link (.listen .hunt none (tx_of_following h) (by decide))) rfl

theorem evolves_frameErrorNow {c : Image} {s : State} (h : following s = true) : Evolves c s (frameErrorNow s) :=
  Change.evolves (.link (.listen .settle none (tx_of_following h) (by decide))) rfl

/-! #### Frames of peers -/

theorem evolves_clash (c : Image) (s : State) : Evolves c s (clash s) := by
  have hq : Evolves c s { s with link := s.link.requestLeave .clash } := evolves_link (.requestLeave _) rfl
  have hend : ∀ u, Evolves c s u →
      Evolves c s (raise .clash { u with member := { u.member with clashHold := true } }) := fun u hu =>
    evolves_then_frame hu rfl
  unfold clash
  dsimp only
  refine hend _ ?_
  cases hs : s.member.state with
  | active | draining => exact hq.trans (evolves_moveTo .detached (by simp [hs]) (.inl rfl))
  | joining | listen => exact evolves_moveTo .detached (by simp [hs]) (.inl rfl)
  | detached | faulted | unconfigured => exact .refl

/-- A BEACON shows a cause of a resync to a station that is not FAULTED alone (R108, R109). -/
theorem free_of_resyncCause {j : Station} {p : Presence} {b : BeaconBody} {s : State}
    (h : resyncCause j p b s = true) : s.member.state ≠ .faulted := by
  intro hf
  simp only [resyncCause, staleEpoch, staleTested, mergeYield, foreign, hf] at h
  revert h
  cases s.plan.epoch <;> simp

theorem evolves_memberBeacon (c : Image) (j : Station) (p : Presence) (b : BeaconBody) (s : State) :
    Evolves c s (memberBeacon j p b s) := by
  unfold memberBeacon
  split_ifs with h
  · exact evolves_resync (free_of_resyncCause h)
  · exact .refl

theorem evolves_beaconFirst (c : Image) (j : Station) (b : BeaconBody) (s : State) :
    Evolves c s (beaconFirst c j b s) := by
  unfold beaconFirst
  refine evolves_after_frame (t := rosterBeacon c j b s) ?_ rfl
  exact ((evolves_alignBeacon c j _ b _).trans (evolves_memberBeacon c j _ b _)).trans (evolves_relay c _ b _)

theorem evolves_takeBeacon (c : Image) (j : Station) (b : BeaconBody) (order : BeaconOrder) (s : State) :
    Evolves c s (takeBeacon c j b order s) := by
  cases order with
  | beaconFirst => exact evolves_beaconFirst c j b s
  | resyncFirst =>
    unfold takeBeacon resyncFirst
    dsimp only
    split_ifs with h
    · have hr : Evolves c s (resync (rosterBeacon c j b s)) :=
        evolves_after_frame (evolves_resync (free_of_resyncCause h)) rfl
      have hb : Evolves c s (rosterBeacon c j b (resync (rosterBeacon c j b s))) := evolves_then_frame hr rfl
      exact hb.trans (evolves_alignBeacon c j _ b _)
    · exact evolves_beaconFirst c j b s

theorem evolves_takeFault (c : Image) (j : Station) (b : FaultBody) (s : State) :
    Evolves c s (takeFault c j b s) := by
  unfold takeFault
  dsimp only
  split_ifs
  · exact evolves_after_frame (evolves_latch c .group false _) rfl
  · exact evolves_frame rfl

theorem evolves_deliver {c : Image} {s : State} (f : Frame) (order : BeaconOrder) (h : following s = true) :
    Evolves c s (deliver c f order s) := by
  have he : Evolves c s (endFrame s) := evolves_link (.listen .hunt _ (tx_of_following h) (by decide)) rfl
  unfold deliver
  dsimp only
  refine he.trans ?_
  split_ifs
  · exact evolves_clash c _
  · split
    · exact evolves_takeBeacon c f.src _ order _
    · exact evolves_frame (view_judgePlan c _ _)
    · exact evolves_takeFault c f.src _ _
    · exact evolves_frame rfl

/-! #### The fault lines -/

theorem evolves_sampleNow (c : Image) (l : FaultLine) (pin : Level) (s : State) : Evolves c s (sampleNow c l pin s) := by
  have hset : ∀ (x : LineState) (u : State), (setLine l x u).view = u.view := fun x u => by cases l <;> rfl
  have hcut : ∀ u, (cutBy l u).view = u.view := fun u => by
    unfold cutBy
    dsimp only
    split_ifs
    · exact hset _ (setCutForce u)
    · change (setLine l _ (setCutForce u)).view = _
      exact hset _ (setCutForce u)
    · rfl
  have haction : ∀ u : State, Evolves c u (assertAction c l u) := fun u => by
    unfold assertAction
    split
    · exact .refl
    · exact evolves_frame (hcut u)
    · exact evolves_frame (hset _ _)
    · exact evolves_latch c _ _ u
  unfold sampleNow
  dsimp only
  split_ifs
  · exact evolves_after_frame (haction _) (hset _ _)
  · exact evolves_frame (hset _ _)

/-! #### The own clock -/

theorem evolves_tick (c : Image) (s : State) : Evolves c s (Machine.tick c s) :=
  Change.evolves .tick rfl

/-- What an own step that is due does. -/
theorem evolves_ownStep {c : Image} {s : State} {x : OwnStep} (hx : x ∈ ownSteps c s) (hdue : x.due = true) :
    Evolves c s (x.act s) := by
  refine ownSteps_cases (P := fun x => x.due = true → Evolves c s (x.act s)) hx
    (boundary := fun _ => evolves_boundary c [] s)
    (silence := fun j _ => evolves_frame (view_takeSilence c j s))
    (apply := fun _ => evolves_takeApply c s)
    (listen := fun _ => evolves_takeListenEnd c s)
    (joinEnd := fun _ => evolves_takeJoinEnd c s)
    (drain := fun _ => evolves_takeDrainEnd c s)
    (trim := fun _ => evolves_takeTrimEnd c s)
    (issue := fun _ => evolves_takeIssue c s)
    (interval := fun _ => evolves_frame rfl)
    (phase := fun _ => evolves_reachPhasePoint c s)
    (held := fun _ => evolves_takeHeld c s)
    (beacon := fun _ => evolves_beaconNow c s)
    (yield := fun _ => evolves_yieldNow c _ s)
    (glitch := fun h => evolves_glitchNow (following_of_glitchDue h))
    (error := fun h => evolves_frameErrorNow (following_of_errorDue h))
    (frame := fun f hf _ => evolves_deliver f .beaconFirst (following_of_frameEnded hf))
    (complete := fun _ => evolves_completeNow c s)
    (edge := fun _ => evolves_takeEdge c [] s)
    (hunt := fun h => evolves_enterHuntNow h)
    (launch := fun h => evolves_launchNow h)
    (sampleA := fun _ => evolves_sampleNow c .flta _ s)
    (sampleB := fun _ => evolves_sampleNow c .fltb _ s) hdue

/-- The station going on by itself (log 2). -/
theorem evolves_goOn (c : Image) (s : State) : Evolves c s (goOn c s) := by
  unfold goOn
  split
  · rename_i x hx
    obtain ⟨hmem, hdue⟩ := nextOwn_mem hx
    exact evolves_ownStep hmem hdue
  · exact evolves_tick c s

/-- A timed command lets the station go on and acts at its instant, or changes nothing (log 3). -/
theorem evolves_reach {c : Image} {due possible : State → Bool} {act : State → State} {start s : State}
    (hact : ∀ t, due t = true → Evolves c t (act t)) (hstart : Evolves c s start) :
    Evolves c s (reach c due possible act start s) :=
  reach_keeps (P := Evolves c s) (fun t ht => ht.trans (evolves_goOn c t)) (fun t hd ht => ht.trans (hact t hd))
    hstart .refl

theorem evolves_timed {c : Image} {due possible : State → Bool} {act : State → State} {s : State}
    (hact : ∀ t, due t = true → Evolves c t (act t)) : Evolves c s (timed c due possible act s) :=
  evolves_reach hact .refl

theorem evolves_received {c : Image} {bits : List Bool} {due possible : State → Bool} {act : State → State} {s : State}
    (hact : ∀ t, due t = true → Evolves c t (act t)) : Evolves c s (received c bits due possible act s) := by
  unfold received
  refine evolves_reach hact ?_
  split_ifs
  · exact evolves_takeEdge c bits s
  · exact .refl

theorem evolves_takeFrame (c : Image) (f : Frame) (order : BeaconOrder) (s : State) :
    Evolves c s (takeFrame c f order s) := by
  refine evolves_received fun t hdue => ?_
  simp only [frameDue, Bool.and_eq_true, beq_iff_eq] at hdue
  exact evolves_deliver f order (following_of_frameEnded hdue.1)

end Sys2Proof.Machine

/-! ### The steps of a station, for an invariant -/

namespace Sys2Proof.Machine

open Sys2Proof.Safety

/-- The ranges of an accepted image that the timer rests on (R176). -/
def TimerRanges (c : Image) : Prop :=
  256 ≤ c.p ∧ c.p ≤ 3600 ∧ 1 ≤ c.corrMax ∧ c.corrMax ≤ 31 ∧ -127 ≤ c.initTrim ∧ c.initTrim ≤ 127

/-- A predicate on states that reset, loading, acceptance and every elementary change of a configured station keep. -/
structure Inductive (P : State → Prop) : Prop where
  same : ∀ s t, t.view = s.view → P s → P t
  reset : P State.reset
  accepted : ∀ s, P s → s.loader.config.isSome = true → s.loader.load = .accepted
  unconfigured : ∀ s, P s → s.loader.config = none → s.member.state = .unconfigured
  load : ∀ s l, s.loader.config = none → l.config = none → l.load ≠ .accepted → P s → P { s with loader := l }
  start : ∀ c s, s.loader.config = none → TimerRanges c → P s → P (Machine.start c s)
  change : ∀ c s t, Configured c s → Change c s t → P s → P t

section
variable {P : State → Prop} (hP : Inductive P)
include hP

/-- An invariant holds along every evolution of a configured station. -/
theorem Inductive.evolves {c : Image} {s t : State} (hc : Configured c s) (h : Evolves c s t) (hs : P s) : P t := by
  have : Configured c t ∧ P t := by
    induction h with
    | refl => exact ⟨hc, hs⟩
    | tail _ hlast ih =>
      obtain ⟨hcu, hu⟩ := ih
      exact ⟨hlast.loader.2.trans hcu, hP.change c _ _ hcu hlast hu⟩
  exact this.2

/-- A configured station's work keeps an invariant, and an unconfigured one does none. -/
theorem Inductive.configured {f : Image → State} {s : State} (hf : ∀ c, Evolves c s (f c)) (hs : P s) :
    P (s.configured f) := by
  cases hc : s.loader.config with
  | none => rwa [configured_none hc]
  | some c => rw [configured_some hc]; exact hP.evolves hc (hf c) hs

/-- A state that is not past its check is without an image. -/
theorem Inductive.config_none {s : State} (hs : P s) (hl : s.loader.load ≠ .accepted) : s.loader.config = none := by
  cases hc : s.loader.config with
  | none => rfl
  | some c => exact absurd (hP.accepted s hs (by simp [hc])) hl

end

end Sys2Proof.Machine

/-! ### Every command and every step keep an invariant -/

namespace Sys2Proof.Machine

open Sys2Proof.Safety

/-! #### The control port -/

theorem view_clearCounter (s : State) (i : Nat) : (clearCounter s i).view = s.view := by
  unfold clearCounter
  split <;> rfl

theorem view_beginWork (k : Nat) (s : State) : (beginWork k s).view = s.view := by
  unfold beginWork
  split
  case h_4 =>
    split_ifs
    · exact view_clearCounter _ _
    · rfl
  all_goals first | rfl | (split_ifs <;> rfl)

theorem view_fallEdge (s : State) : (fallEdge s).view = s.view := by
  unfold fallEdge
  split
  · split_ifs
    · rfl
    · exact view_beginWork _ _
    · rfl
  all_goals rfl

theorem view_riseEdge (bit : Bool) (s : State) : (riseEdge bit s).view = s.view := by
  unfold riseEdge completeWork
  dsimp only
  split
  · split_ifs <;> rfl
  all_goals rfl

theorem view_clockBit (s : State) (bit : Bool) : (clockBit s bit).view = s.view :=
  (view_riseEdge bit _).trans (view_fallEdge s)

/-- The edges of CP_SCK change nothing that an invariant reads (R185). -/
theorem view_clockBits (x : Xfer) (s : State) : (clockBits x s).view = s.view := by
  have hbits : (x.bits.foldl clockBit s).view = s.view := by
    induction x.bits generalizing s with
    | nil => rfl
    | cons b bits ih => exact (ih _).trans (view_clockBit s b)
  unfold clockBits
  dsimp only
  split_ifs
  · exact (view_fallEdge _).trans hbits
  · exact hbits

theorem evolves_commandJoin (c : Image) (s : State) : Evolves c s (commandJoin s) := by
  unfold commandJoin
  split
  · rename_i hs
    refine evolves_then_frame (t := joinPath { s with member := { s.member with clashHold := false } }) ?_ rfl
    exact evolves_after_frame (evolves_joinPath (by simp [hs])) rfl
  all_goals exact evolves_frame rfl

theorem evolves_commandLeave (c : Image) (s : State) : Evolves c s (commandLeave s) := by
  unfold commandLeave
  split
  · rename_i hs
    refine evolves_then_frame (t := leaveGroup s) ?_ rfl
    unfold leaveGroup
    split_ifs
    · exact evolves_then_frame (evolves_moveTo .detached (by simp [hs]) (.inl rfl)) rfl
    · let asked := { s with link := s.link.requestLeave .requested }
      have hq : Evolves c s asked := evolves_link (.requestLeave _) rfl
      exact hq.trans (evolves_moveTo_of_change (s := asked) (.drain hs) rfl (view_moveTo .draining asked))
  all_goals first
    | exact evolves_frame rfl
    | (rename_i hs; exact evolves_then_frame (evolves_moveTo .detached (by simp [hs]) (.inl rfl)) rfl)

theorem evolves_commandClear (c : Image) (s : State) : Evolves c s (commandClear s) := by
  unfold commandClear
  split_ifs
  · exact evolves_frame rfl
  · refine evolves_then_frame (t := clearLatched s) ?_ rfl
    have hclear : Evolves c s (moveTo .detached { s with mon := s.mon.clearLatch }) :=
      evolves_moveTo_of_change .unlatch rfl (view_moveTo .detached _)
    unfold clearLatched
    dsimp only
    split_ifs
    · exact hclear.trans (evolves_joinPath (by simp [Member.enter]))
    · exact hclear
  · exact evolves_frame rfl

/-! #### Images -/

/-- The ranges of R176 of an image that passes every check (R178). -/
theorem fieldRanges_of_sound {image : List Byte} (h : firstFailure image = none) :
    (256 ≤ wordAt image 1 ∧ wordAt image 1 ≤ 3600) ∧ bitsAt image 4 0 3 ≤ 5 ∧
      (1 ≤ byteAt image 5 ∧ byteAt image 5 ≤ 31) ∧ (1 ≤ byteAt image 6 ∧ byteAt image 6 ≤ 31) ∧
      (4 ≤ byteAt image 7 ∧ byteAt image 7 ≤ 32) ∧ (2 ≤ byteAt image 8 ∧ byteAt image 8 ≤ 16) ∧
      1 ≤ byteAt image 9 ∧ 1 ≤ byteAt image 10 ∧ wordAt image 11 ≤ 1023 ∧
      byteAt image 5 ≤ byteAt image 13 ∧ bitsAt image 16 6 2 = 0 ∧ byteAt image 17 ≠ 0x80 ∧ 0 ≤ imageCeiling image := by
  simp [-List.all_eq_true, firstFailure, fieldChecks, within] at h
  omega

/-- INITTRIM is a signed byte other than 80h (R176). -/
theorem toInt_initTrim {n : Nat} (h : n < 256) :
    (BitVec.ofNat 8 n).toInt = if n < 128 then (n : Int) else n - 256 := by
  rw [BitVec.toInt_eq_toNat_cond]
  simp only [BitVec.toNat_ofNat]
  split_ifs <;> omega

theorem byteAt_lt (image : List Byte) (i : Nat) : byteAt image i < 256 := (image.getD i 0).isLt

theorem timerRanges_imageOf {image : List Byte} (h : firstFailure image = none) : TimerRanges (imageOf image) := by
  obtain ⟨hp, -, hcorr, -, -, -, -, -, -, -, -, htrim, -⟩ := fieldRanges_of_sound h
  have h17 := byteAt_lt image 17
  have hinit : (imageOf image).initTrim = if byteAt image 17 < 128 then (byteAt image 17 : Int) else byteAt image 17 - 256 :=
    toInt_initTrim h17
  refine ⟨hp.1, hp.2, hcorr.1, hcorr.2, ?_⟩
  rw [hinit]
  split_ifs <;> omega

section
variable {P : State → Prop} (hP : Inductive P)
include hP

/-! #### Resets and loads -/

theorem Inductive.resetBy (cause : ResetCause) (txn : Txn) (s : State) : P (Machine.resetBy cause txn s) :=
  hP.same State.reset _ rfl hP.reset

theorem Inductive.beginAttempt {s : State} (hs : P s) (hl : s.loader.load ≠ .accepted) : P (Machine.beginAttempt s) := by
  have hc := hP.config_none hs hl
  exact hP.load s s.loader.beginAttempt hc hc nofun hs

theorem Inductive.refuse {s : State} (hs : P s) (hc : s.loader.config = none) (cause : DiagCause) (index : Option Nat) :
    P (Machine.refuse cause index s) :=
  hP.same { s with loader := s.loader.refuse cause index } _ rfl
    (hP.load s (s.loader.refuse cause index) hc hc nofun hs)

theorem Inductive.afterFailure {s : State} (why : AttemptFailure) (hs : P s) (hl : s.loader.load = .reading) :
    P (Machine.afterFailure why s) := by
  have hc := hP.config_none hs (by simp [hl])
  have hfail : P { s with loader := s.loader.fail why } := hP.load s (s.loader.fail why) hc hc nofun hs
  unfold Machine.afterFailure
  dsimp only
  split_ifs
  · exact hP.refuse hfail hc _ _
  · exact hfail

theorem Inductive.judgeImage {s : State} (pulses : Nat) (image : List Byte) (hs : P s)
    (hl : s.loader.load = .reading) :
    P (Machine.judgeImage image { s with loader := s.loader.fill pulses image }) := by
  have hc := hP.config_none hs (by simp [hl])
  have hfill : P { s with loader := s.loader.fill pulses image } :=
    hP.load s (s.loader.fill pulses image) hc hc nofun hs
  unfold Machine.judgeImage
  split_ifs
  · exact hP.refuse hfill hc _ _
  · split
    · exact hP.refuse hfill hc _ _
    · rename_i hsound
      have hstart := hP.start (imageOf image) { s with loader := s.loader.fill pulses image } hc
        (timerRanges_imageOf hsound) hfill
      unfold accept
      dsimp only
      split_ifs
      · exact hP.evolves (c := imageOf image) rfl (evolves_joinPath nofun) hstart
      · exact hstart

/-! #### Transactions -/

/-- A command that evolves a configured station and that an UNCONFIGURED one refuses. -/
theorem Inductive.command {f : State → State} {s : State} (hf : ∀ c, Evolves c s (f s))
    (hrefused : s.member.state = .unconfigured → (f s).view = s.view) (hs : P s) : P (f s) := by
  cases hc : s.loader.config with
  | none => exact hP.same s _ (hrefused (hP.unconfigured s hs hc)) hs
  | some c => exact hP.evolves hc (hf c) hs

theorem Inductive.runCommand {s : State} (b : Byte) (hs : P s) : P (Machine.runCommand b s) := by
  unfold Machine.runCommand
  split_ifs
  · exact hP.command (fun c => evolves_commandJoin c s) (fun hu => by simp only [commandJoin, hu]; rfl) hs
  · exact hP.command (fun c => evolves_commandLeave c s) (fun hu => by simp only [commandLeave, hu]; rfl) hs
  · exact hP.command (fun c => evolves_commandClear c s) (fun hu => by simp [commandClear, hu]; rfl) hs
  · exact hP.beginAttempt (hP.resetBy .restart .closed s) nofun
  · exact hs

theorem Inductive.closeTxn {s : State} (hs : P s) : P (Machine.closeTxn s) := by
  have hact : P (actAtEnd s) := by
    unfold actAtEnd
    split
    · exact hP.same s _ rfl hs
    · exact hP.same s _ rfl hs
    · exact hP.same s _ rfl hs
    · exact hP.runCommand _ hs
    · exact hs
  unfold Machine.closeTxn
  split
  · exact hP.same (actAtEnd s) _ rfl hact
  · exact hP.same s _ rfl hs
  · exact hs

theorem Inductive.openTxn {s : State} (hs : P s) : P (Machine.openTxn s) := by
  unfold Machine.openTxn
  dsimp only
  split_ifs <;> exact hP.same (Machine.closeTxn s) _ rfl (hP.closeTxn hs)

theorem Inductive.transfer (header : List Byte) (x : Xfer) {s : State} (hs : P s) : P (Machine.transfer header x s) := by
  have hopen : P (if x.opens then Machine.openTxn s else s) := by
    split_ifs
    · exact hP.openTxn hs
    · exact hs
  have hclock : P (clockBits x (if x.opens then Machine.openTxn s else s)) := hP.same _ _ (view_clockBits x _) hopen
  unfold Machine.transfer
  dsimp only
  split_ifs at hclock ⊢
  all_goals first | exact hs | exact hP.closeTxn hclock | exact hclock

/-! #### Commands and steps -/

theorem Inductive.exec {i : Instr} {s t : State} (hs : P s) (h : Machine.exec i s = .next t) : P t := by
  cases i <;> obtain rfl := Host.Outcome.next.inj h
  case powerOn | resetPin => exact hP.resetBy _ _ s
  case loadStart =>
    split_ifs with hl
    · exact hP.beginAttempt hs (by simp [hl])
    · exact hs
  case attemptFailed why =>
    split_ifs with hl
    · exact hP.afterFailure why hs hl
    · exact hs
  case retryWaitEnd =>
    split_ifs with hl
    · exact hP.beginAttempt hs (by simp [hl])
    · exact hs
  case imageCheck pulses image =>
    split_ifs with hl
    · exact hP.judgeImage pulses image hs hl
    · exact hs
  case cycleBoundary order => exact hP.configured (fun c => evolves_timed fun t _ => evolves_boundary c order t) hs
  case trimWindowEnd => exact hP.configured (fun c => evolves_takeTrimEnd c s) hs
  case silenceLimit j => exact hP.configured (fun c => evolves_frame (view_takeSilence c j s)) hs
  case beaconPoint => exact hP.configured (fun c => evolves_timed fun t _ => evolves_beaconNow c t) hs
  case planIssue => exact hP.configured (fun c => evolves_takeIssue c s) hs
  case planApply => exact hP.configured (fun c => evolves_takeApply c s) hs
  case listenWindowEnd => exact hP.configured (fun c => evolves_takeListenEnd c s) hs
  case joinWindowEnd => exact hP.configured (fun c => evolves_takeJoinEnd c s) hs
  case drainWindowEnd => exact hP.configured (fun c => evolves_takeDrainEnd c s) hs
  case launch => exact hP.configured (fun c => evolves_timed fun t hd => evolves_launchNow hd) hs
  case yieldAt y =>
    refine hP.configured (fun c => ?_) hs
    split_ifs
    · exact .refl
    · exact evolves_timed fun t _ => evolves_yieldNow c y t
  case lineFault bit => exact hP.configured (fun c => evolves_timed fun t _ => evolves_lineFaultNow c t) hs
  case frameComplete => exact hP.configured (fun c => evolves_timed fun t _ => evolves_completeNow c t) hs
  case enterHunt => exact hP.configured (fun c => evolves_timed fun t hd => evolves_enterHuntNow hd) hs
  case beacon | plan | fault | leaveFrame | clashFrame => exact hP.configured (fun c => evolves_takeFrame c _ _ s) hs
  case phasePoint => exact hP.configured (fun c => evolves_timed fun t _ => evolves_reachPhasePoint c t) hs
  case heldPhasePoint => exact hP.configured (fun c => evolves_timed fun t _ => evolves_takeHeld c t) hs
  case intervalEnd => exact hP.configured (fun c => evolves_timed fun t _ => evolves_frame rfl) hs
  case markEnd => exact hP.configured (fun c => evolves_timed fun t _ => .refl) hs
  case lineSample line pin => exact hP.configured (fun c => evolves_timed fun t _ => evolves_sampleNow c line pin t) hs
  case sofEdge bits => exact hP.configured (fun c => evolves_takeEdge c bits s) hs
  case startBitGlitch =>
    refine hP.configured (fun c => evolves_reach (fun t hd => evolves_glitchNow (following_of_glitchDue hd)) ?_) hs
    split_ifs
    · exact evolves_after_frame (evolves_takeDominant c _) rfl
    · exact .refl
  case receivedFrameError bits =>
    refine hP.configured (fun c => evolves_received fun t hd => evolves_frameErrorNow ?_) hs
    simp only [errorOf, Bool.and_eq_true] at hd
    exact following_of_errorDue hd.2
  all_goals exact hP.transfer _ _ hs

theorem Inductive.clock {s : State} (hs : P s) : P (Machine.clock s) := by
  unfold Machine.clock
  split
  · unfold waitPeriod
    split_ifs
    · exact hP.same s _ rfl hs
    · exact hs
  · rename_i c hc
    split_ifs
    · exact hP.same s _ rfl hs
    · exact hP.evolves hc (evolves_tick c s) hs

/-- Every step keeps it. -/
theorem Inductive.step {s t : State} (hs : P s) (h : Machine.step s = .next t) : P t := by
  unfold Machine.step at h
  split at h
  · unfold idleStep at h
    split at h
    · exact hP.exec hs h
    · obtain rfl := Host.Outcome.next.inj h
      exact hP.clock hs
  · rename_i i rest _
    exact hP.exec (hP.same s { s with pending := rest } rfl hs) h

end

end Sys2Proof.Machine

/-! ### The invariants (tier 3) -/

namespace Sys2Proof.Machine

open Sys2Proof.Safety

/-! #### The loader -/

theorem loadSound_iff_view (s : State) : LoadSound s ↔
    (s.view.config.isSome = true ↔ s.view.load = .accepted) ∧
      (s.view.config = none → s.view.membership = .unconfigured) :=
  ⟨fun ⟨h1, h2⟩ => ⟨h1, h2⟩, fun ⟨h1, h2⟩ => ⟨h1, h2⟩⟩

theorem loadSound_of_view {s t : State} (h : t.view = s.view) (hs : LoadSound s) : LoadSound t := by
  rw [loadSound_iff_view] at hs ⊢
  rwa [h]

theorem loadSound_reset : LoadSound State.reset := ⟨by decide, fun _ => rfl⟩

theorem loadSound_load {s : State} {l : Loader} (hc : s.loader.config = none) (hlc : l.config = none)
    (hl : l.load ≠ .accepted) (hs : LoadSound s) : LoadSound { s with loader := l } :=
  ⟨by simp [hlc, hl], fun _ => hs.unconfigured hc⟩

theorem loadSound_start (c : Image) (s : State) : LoadSound (start c s) :=
  ⟨by simp [start], nofun⟩

/-- A change of a configured station keeps its loader. -/
theorem loadSound_change {c : Image} {s t : State} (hc : Configured c s) (h : Change c s t) (hs : LoadSound s) :
    LoadSound t := by
  obtain ⟨hload, hconfig⟩ := h.loader
  refine ⟨?_, fun hn => ?_⟩
  · rw [hload, hconfig]
    exact hs.accepted
  · rw [hconfig, hc] at hn
    cases hn

/-! #### The latch (R166) -/

theorem latchSound_inductive : Inductive LatchSound where
  same s t h hs := ⟨loadSound_of_view h hs.load, by
    rw [show t.mon.latch = s.mon.latch from congrArg View.latch h,
      show t.member.state = s.member.state from congrArg View.membership h]
    exact hs.latch⟩
  reset := ⟨loadSound_reset, by decide⟩
  accepted s hs := hs.load.accepted.mp
  unconfigured s hs := hs.load.unconfigured
  load s l hc hlc hl hs := ⟨loadSound_load hc hlc hl hs.load, hs.latch⟩
  start c s hc _ hs := ⟨loadSound_start c s, by
    have h := hs.latch
    rw [hs.load.unconfigured hc] at h
    simpa [start, Member.enter] using h⟩
  change c s t hc h hs := by
    refine ⟨loadSound_change hc h hs.load, ?_⟩
    have hlatch := hs.latch
    cases h with
    | frame same =>
      rw [show t.mon.latch = s.mon.latch from congrArg View.latch same,
        show t.member.state = s.member.state from congrArg View.membership same]
      exact hlatch
    | trimBy | turn | limit | coarse | tick | link | allocate | deallocate => exact hlatch
    | leave next free outside =>
      rcases outside with rfl | rfl | rfl <;> simpa [free] using hlatch
    | drain active => simpa [active] using hlatch
    | activate m free held own => simpa [free] using hlatch
    | latch o => simp
    | unlatch => simp

/-- Settles O55: `LatchSound` is kept by every elementary change. -/
theorem stepKeepsLatchExactlyInFaulted : Obligations.StepKeepsLatchExactlyInFaulted :=
  fun _ _ => latchSound_inductive.step

/-! #### The timer (R3, R4, R6, R7) -/

theorem clamp_mem {lo hi : Int} (h : lo ≤ hi) (x : Int) : lo ≤ clamp lo hi x ∧ clamp lo hi x ≤ hi := by
  unfold clamp
  split_ifs <;> omega

/-- The trim accumulator and its tick stay within their ranges (R6). -/
theorem accumulate_mem {acc trim : Int} (hacc : -1023 ≤ acc ∧ acc ≤ 1023) (htrim : -127 ≤ trim ∧ trim ≤ 127) :
    (-1023 ≤ (accumulate acc trim).1 ∧ (accumulate acc trim).1 ≤ 1023) ∧
      -1 ≤ (accumulate acc trim).2 ∧ (accumulate acc trim).2 ≤ 1 := by
  unfold accumulate
  dsimp only
  split_ifs <;> simp only <;> omega

/-- What TimerSound says of the timer of a station with this image. -/
structure TimerRange (c : Image) (t : Timer) : Prop where
  trim : -127 ≤ t.trim ∧ t.trim ≤ 127
  acc : -1023 ≤ t.acc ∧ t.acc ≤ 1023
  trimTick : -1 ≤ t.trimTick ∧ t.trimTick ≤ 1
  length : (c.p : Int) - (c.p / 8 : Nat) - 1 ≤ t.length ∧ (t.length : Int) ≤ c.p + (c.p / 8 : Nat) + 1
  counter : t.counter < t.length
  atEnd : t.atEnd = true → t.counter + 1 = t.length

/-- For a configured station TimerSound is the soundness of the loader, the image's ranges and the timer's. -/
theorem timerSound_iff {c : Image} {s : State} (hc : Configured c s) :
    TimerSound s ↔ LoadSound s ∧ TimerRanges c ∧ TimerRange c s.timer := by
  have hc : s.loader.config = some c := hc
  constructor
  · intro h
    exact ⟨h.load, h.image c hc, h.trim, h.acc, h.trimTick, h.length c hc, h.counter (by simp [hc]), h.atEnd⟩
  · rintro ⟨hl, hi, h⟩
    refine ⟨hl, by simp [hc], fun d hd => ?_, h.trim, h.acc, h.trimTick, fun d hd => ?_, fun _ => h.counter, h.atEnd⟩
    · rw [hc] at hd
      cases hd
      exact hi
    · rw [hc] at hd
      cases hd
      exact h.length

/-- The limit on the correction is within an eighth of the cycle in every state (R4). -/
theorem corrLimit_le {c : Image} (h : TimerRanges c) (m : Membership) :
    0 ≤ corrLimit c m ∧ corrLimit c m ≤ (c.p / 8 : Nat) := by
  obtain ⟨hp, -, -, hcorr, -⟩ := h
  cases m <;> simp only [corrLimit] <;> omega

/-- The length that follows the limit of a cycle that begins (R4). -/
theorem timerRange_limit {c : Image} {t : Timer} (hc : TimerRanges c) (h : TimerRange c t) (m : Membership)
    (start : t.counter = 0) : TimerRange c (t.limit c m) := by
  obtain ⟨hlo, hhi⟩ := corrLimit_le hc m
  have hclamp := clamp_mem (lo := -(corrLimit c m)) (hi := corrLimit c m) (by omega) t.corr
  have hp := hc.1
  have htick := h.trimTick
  have hl := h.length
  have hcount := h.counter
  refine ⟨h.trim, h.acc, h.trimTick, ?_, ?_, ?_⟩
  · simp only [Timer.limit]
    omega
  · simp only [Timer.limit]
    omega
  · intro hend
    have := h.atEnd hend
    omega

/-- Every elementary change keeps the timer's ranges. -/
theorem timerRange_change {c : Image} {s t : State} (hc : TimerRanges c) (h : Change c s t)
    (hs : TimerRange c s.timer) : TimerRange c t.timer := by
  have hp := hc.1
  have hrange := hs.length
  have hcount := hs.counter
  cases h with
  | frame same =>
    simp only [State.view, View.mk.injEq] at same
    obtain ⟨htrim, hacc, htick, hlength, hcounter, hend, -⟩ := same
    exact ⟨htrim ▸ hs.trim, hacc ▸ hs.acc, htick ▸ hs.trimTick, by rw [hlength]; exact hs.length,
      by rw [hcounter, hlength]; exact hs.counter, by rw [hcounter, hlength, hend]; exact hs.atEnd⟩
  | trimBy step => exact ⟨clamp_mem (by decide) _, hs.acc, hs.trimTick, hs.length, hs.counter, hs.atEnd⟩
  | turn =>
    obtain ⟨hacc, htick⟩ := accumulate_mem hs.acc hs.trim
    exact ⟨hs.trim, hacc, htick, hs.length, by simp only [Timer.turn]; omega, nofun⟩
  | limit m start => exact timerRange_limit hc hs m start
  | coarse b =>
    refine ⟨hs.trim, hs.acc, show (-1 : Int) ≤ 0 ∧ (0 : Int) ≤ 1 by decide, ?_, Nat.mod_lt _ (by omega), nofun⟩
    simp only [Timer.coarse]
    omega
  | tick =>
    refine ⟨hs.trim, hs.acc, hs.trimTick, hs.length, ?_, ?_⟩
    · simp only [Timer.tick]
      split_ifs <;> omega
    · simp only [Timer.tick, decide_eq_true_eq]
      split_ifs <;> omega
  | link change => exact ⟨hs.trim, hs.acc, hs.trimTick, hs.length, hs.counter, hs.atEnd⟩
  | leave | drain | activate | latch | unlatch | allocate | deallocate => exact hs

theorem timerSound_reset : TimerSound State.reset where
  load := loadSound_reset
  stopped _ := rfl
  image _ h := nomatch h
  trim := by decide
  acc := by decide
  trimTick := by decide
  length _ h := nomatch h
  counter h := nomatch h
  atEnd h := nomatch h

theorem timerSound_inductive : Inductive TimerSound where
  same s t h hs := by
    have hl := loadSound_of_view h hs.load
    simp only [State.view, View.mk.injEq] at h
    obtain ⟨htrim, hacc, htick, hlength, hcounter, hend, -, -, -, -, -, -, -, -, -, -, -, -, -, hconfig⟩ := h
    exact ⟨hl, by rw [hconfig, hend]; exact hs.stopped, by rw [hconfig]; exact hs.image, htrim ▸ hs.trim,
      hacc ▸ hs.acc, htick ▸ hs.trimTick, by rw [hconfig, hlength]; exact hs.length,
      by rw [hconfig, hcounter, hlength]; exact hs.counter, by rw [hcounter, hlength, hend]; exact hs.atEnd⟩
  reset := timerSound_reset
  accepted s hs := hs.load.accepted.mp
  unconfigured s hs := hs.load.unconfigured
  load s l hc hlc hl hs :=
    have hnone : ∀ c, l.config ≠ some c := fun c h => by rw [hlc] at h; cases h
    ⟨loadSound_load hc hlc hl hs.load, fun _ => hs.stopped hc, fun c h => absurd h (hnone c), hs.trim, hs.acc,
      hs.trimTick, fun c h => absurd h (hnone c), fun h => by simp [hlc] at h, hs.atEnd⟩
  start c s hc hranges hs := by
    have hend := hs.stopped hc
    have hp := hranges.1
    refine (timerSound_iff (c := c) rfl).mpr ⟨loadSound_start c s, hranges, hranges.2.2.2.2,
      show (-1023 : Int) ≤ 0 ∧ (0 : Int) ≤ 1023 by decide, show (-1 : Int) ≤ 0 ∧ (0 : Int) ≤ 1 by decide, ?_, ?_, ?_⟩
    · simp only [Machine.start, Timer.begin]
      omega
    · simp only [Machine.start, Timer.begin]
      omega
    · intro h
      rw [show (Machine.start c s).timer.atEnd = s.timer.atEnd from rfl, hend] at h
      cases h
  change c s t hc h hs := by
    obtain ⟨hl, hi, ht⟩ := (timerSound_iff hc).mp hs
    exact (timerSound_iff (h.loader.2.trans hc)).mpr ⟨loadSound_change hc h hl, hi, timerRange_change hi h ht⟩

/-- Settles O56: `TimerSound` is kept by every elementary change. -/
theorem stepKeepsTimerRanges : Obligations.StepKeepsTimerRanges :=
  fun _ _ => timerSound_inductive.step

/-! #### The allocation (R87, R115) -/

/-- What GroupSound says of the plan records and the membership of a station with this image. -/
structure Allocated (c : Image) (s : State) : Prop where
  place : s.plan.place = s.plan.set.bind fun m => placeIn c.p m c.station
  own : inGroup s.member.state = true → ∃ m, s.plan.set = some m ∧ inSet m c.station = true

theorem groupSound_iff {c : Image} {s : State} (hc : Configured c s) :
    GroupSound s ↔ s.loader.load = .accepted ∧ Allocated c s := by
  have hc : s.loader.config = some c := hc
  constructor
  · intro h
    exact ⟨h.load (by simp [hc]), h.place c hc, h.own c hc⟩
  · rintro ⟨hl, hplace, hown⟩
    refine ⟨fun _ => hl, by simp [hc], fun d hd => ?_, fun d hd => ?_⟩
    · rw [hc] at hd
      cases hd
      exact hplace
    · rw [hc] at hd
      cases hd
      exact hown

theorem allocated_change {c : Image} {s t : State} (h : Change c s t) (hs : Allocated c s) : Allocated c t := by
  cases h with
  | frame same =>
    have hset : t.plan.set = s.plan.set := congrArg View.set same
    have hplace : t.plan.place = s.plan.place := congrArg View.place same
    have hstate : t.member.state = s.member.state := congrArg View.membership same
    exact ⟨by rw [hset, hplace]; exact hs.place, by rw [hset, hstate]; exact hs.own⟩
  | trimBy | turn | limit | coarse | tick | link => exact ⟨hs.place, hs.own⟩
  | leave next free outside =>
    refine ⟨hs.place, fun h => ?_⟩
    rcases outside with rfl | rfl | rfl <;> cases h
  | drain active => exact ⟨hs.place, fun _ => hs.own (by rw [active]; rfl)⟩
  | activate m free held own => exact ⟨hs.place, fun _ => ⟨m, held, own⟩⟩
  | latch | unlatch => exact ⟨hs.place, nofun⟩
  | allocate m own => exact ⟨rfl, fun h => ⟨m, rfl, own h⟩⟩
  | deallocate outside => exact ⟨rfl, fun h => by rw [outside] at h; cases h⟩

theorem groupSound_reset : GroupSound State.reset where
  load h := nomatch h
  empty _ := ⟨rfl, rfl, rfl⟩
  place _ h := nomatch h
  own _ h := nomatch h

theorem groupSound_inductive : Inductive GroupSound where
  same s t h hs := by
    simp only [State.view, View.mk.injEq] at h
    obtain ⟨-, -, -, -, -, -, -, -, -, -, -, -, -, -, hstate, hset, hplace, -, hload, hconfig⟩ := h
    exact ⟨by rw [hconfig, hload]; exact hs.load, by rw [hconfig, hset, hplace, hstate]; exact hs.empty,
      by rw [hconfig, hset, hplace]; exact hs.place, by rw [hconfig, hset, hstate]; exact hs.own⟩
  reset := groupSound_reset
  accepted s hs := hs.load
  unconfigured s hs hc := (hs.empty hc).2.2
  load s l hc hlc hl hs :=
    have hnone : ∀ c, l.config ≠ some c := fun c h => by rw [hlc] at h; cases h
    ⟨fun h => by simp [hlc] at h, fun _ => hs.empty hc, fun c h => absurd h (hnone c), fun c h => absurd h (hnone c)⟩
  start c s hc _ hs := by
    obtain ⟨hset, hplace, -⟩ := hs.empty hc
    exact (groupSound_iff (c := c) rfl).mpr ⟨rfl, by simp [Machine.start, hset, hplace], nofun⟩
  change c s t hc h hs := by
    obtain ⟨hl, ha⟩ := (groupSound_iff hc).mp hs
    exact (groupSound_iff (h.loader.2.trans hc)).mpr ⟨h.loader.1.trans hl, allocated_change h ha⟩

/-- Settles O57: `GroupSound` is kept by every elementary change. -/
theorem stepKeepsTheAllocation : Obligations.StepKeepsTheAllocation :=
  fun _ _ => groupSound_inductive.step

end Sys2Proof.Machine

/-! ### The slots of the queue by their kind (R23 to R28) -/

namespace Sys2Proof.Machine

/-- Clearing a slot takes its request and no other. -/
theorem retries_clearSlot (l : Link) (k j : FrameKind) :
    (l.clearSlot k).retries j = if j = k then none else l.retries j := by
  cases k <;> cases j <;> rfl

/-- Counting a retry raises that of one request and of no other. -/
theorem retries_countRetry (l : Link) (k j : FrameKind) :
    (l.countRetry k).retries j = if j = k then (l.retries j).map (· + 1) else l.retries j := by
  cases k <;> cases j <;> simp [Link.countRetry, Link.retries, Slot.retryMore, Function.comp_def]

@[simp] theorem retries_settleTx (l : Link) (j : FrameKind) : l.settleTx.retries j = l.retries j := by
  cases j <;> simp [Link.retries]

@[simp] theorem retries_endSending (l : Link) (j : FrameKind) : l.endSending.retries j = l.retries j := by
  unfold Link.endSending
  rw [retries_settleTx]
  rfl

theorem clearSlot_rx (l : Link) (k : FrameKind) : (l.clearSlot k).rx = l.rx := by cases k <;> rfl

theorem countRetry_rx (l : Link) (k : FrameKind) : (l.countRetry k).rx = l.rx := by cases k <;> rfl

theorem endSending_tx_ne_sending (l : Link) : l.endSending.tx ≠ .sending := by
  unfold Link.endSending
  rw [settleTx_tx]
  dsimp only
  split_ifs <;> decide

/-- A frame that still holds its slot is of a kind whose slot was not lost (R24, R27). -/
theorem holdsSlot_loseSlot {l : Link} {k : FrameKind} {f : InFlight} (hf : (l.loseSlot k).inFlight = some f)
    (hh : f.holdsSlot = true) : bodyKind f.frame.body ≠ k ∧ l.inFlight = some f := by
  simp only [Link.loseSlot, Option.map_eq_some_iff] at hf
  obtain ⟨g, hg, hgf⟩ := hf
  split_ifs at hgf with hk
  · subst hgf
    cases hh
  · subst hgf
    exact ⟨hk, hg⟩

/-- The body that the arbiter forms is of a kind whose slot holds a request (R25). -/
theorem retries_of_arbitrate {c : Image} {s : State} {body : FrameBody} (h : arbitrate c s = some body) :
    (s.link.retries (bodyKind body)).isSome = true := by
  unfold arbitrate at h
  split at h <;> cases h <;> simp_all [Link.retries, bodyKind]

end Sys2Proof.Machine

/-! ### The transmitter (R23, R25, R28, R31, R9) -/

namespace Sys2Proof.Machine

open Sys2Proof.Safety

/-- What TransmitSound says of the link with its capture. -/
structure LinkSound (l : Link) (cap : Option TimePair) : Prop where
  flight : l.inFlight.isSome = true ↔ l.tx = .sending
  defer : l.tx = .defer → l.waiting = true
  idle : l.tx = .idle → l.waiting = false
  slot : ∀ f, l.inFlight = some f → f.holdsSlot = true → (l.retries (bodyKind f.frame.body)).isSome = true
  follows : l.tx = .sending → l.rx = .receiving
  capture : l.rx = .receiving → cap.isSome = true
  retries : ∀ k n, l.retries k = some n → n ≤ 7

theorem retryInRange_iff {α : Type} (q : Option (Slot α)) :
    retryInRange q ↔ ∀ n, q.map Slot.retry = some n → n ≤ 7 := by
  simp only [Option.map_eq_some_iff]
  exact ⟨fun h n ⟨x, hx, hn⟩ => hn ▸ h x hx, fun h x hx => h x.retry ⟨x, hx, rfl⟩⟩

theorem transmitSound_iff (s : State) : TransmitSound s ↔ LoadSound s ∧
    (s.loader.config = none → s.link.tx = .off ∧ s.link.waiting = false) ∧ LinkSound s.link s.timer.capture := by
  have hslot : ∀ k, (match k with
      | FrameKind.fault => s.link.qFault.isSome
      | .leave => s.link.qLeave.isSome
      | .plan => s.link.qPlan.isSome
      | .beacon => s.link.qBeacon.isSome) = (s.link.retries k).isSome := fun k => by cases k <;> simp [Link.retries]
  have hretries : (retryInRange s.link.qFault ∧ retryInRange s.link.qLeave ∧ retryInRange s.link.qPlan ∧
      retryInRange s.link.qBeacon) ↔ ∀ k n, s.link.retries k = some n → n ≤ 7 := by
    simp only [retryInRange_iff]
    exact ⟨fun ⟨hf, hl, hp, hb⟩ k => by cases k <;> assumption, fun h => ⟨h .fault, h .leave, h .plan, h .beacon⟩⟩
  constructor
  · intro h
    exact ⟨h.load, h.off, h.flight, h.defer, h.idle, fun f hf hh => (hslot _) ▸ h.slot f hf hh, h.follows, h.capture,
      hretries.mp h.retries⟩
  · rintro ⟨hl, ho, h⟩
    exact ⟨hl, ho, h.flight, h.defer, h.idle, fun f hf hh => (hslot _).trans (h.slot f hf hh), h.follows, h.capture,
      hretries.mpr h.retries⟩

/-- What holds of the link before the transmitter settles into DEFER or IDLE (R25). -/
structure LinkUnsettled (l : Link) (cap : Option TimePair) : Prop where
  flight : l.inFlight.isSome = true ↔ l.tx = .sending
  slot : ∀ f, l.inFlight = some f → f.holdsSlot = true → (l.retries (bodyKind f.frame.body)).isSome = true
  follows : l.tx = .sending → l.rx = .receiving
  capture : l.rx = .receiving → cap.isSome = true
  retries : ∀ k n, l.retries k = some n → n ≤ 7

theorem linkSound_settleTx {l : Link} {cap : Option TimePair} (h : LinkUnsettled l cap) : LinkSound l.settleTx cap := by
  have hsending : l.settleTx.tx = .sending ↔ l.tx = .sending := by
    rw [settleTx_tx]
    cases l.tx <;> cases l.waiting <;> decide
  have hdefer : l.settleTx.tx = .defer → l.waiting = true := by
    rw [settleTx_tx]
    cases l.tx <;> cases l.waiting <;> decide
  have hidle : l.settleTx.tx = .idle → l.waiting = false := by
    rw [settleTx_tx]
    cases l.tx <;> cases l.waiting <;> decide
  refine ⟨?_, by rwa [settleTx_waiting], by rwa [settleTx_waiting], fun f hf hh => ?_, ?_, ?_, fun k n hn => ?_⟩
  · rw [settleTx_inFlight, hsending]
    exact h.flight
  · rw [retries_settleTx]
    exact h.slot f (by rwa [settleTx_inFlight] at hf) hh
  · rw [hsending, settleTx_rx]
    exact h.follows
  · rw [settleTx_rx]
    exact h.capture
  · exact h.retries k n (by rwa [retries_settleTx] at hn)

/-- The request in a slot is replaced or withdrawn (R23, R24). -/
theorem linkSound_replace {l l' : Link} {cap : Option TimePair} (k : FrameKind) {retry : Option Nat}
    (h : LinkSound l cap) (hflight : l'.inFlight = (l.loseSlot k).inFlight) (htx : l'.tx = l.tx) (hrx : l'.rx = l.rx)
    (hretries : ∀ j, l'.retries j = if j = k then retry else l.retries j) (hnew : ∀ n ∈ retry, n = 0) :
    LinkSound l'.settleTx cap := by
  refine linkSound_settleTx ⟨?_, fun f hf hh => ?_, by rw [htx, hrx]; exact h.follows, by rw [hrx]; exact h.capture,
    fun j n hn => ?_⟩
  · rw [hflight, loseSlot_isSome, htx]
    exact h.flight
  · obtain ⟨hk, hf⟩ := holdsSlot_loseSlot (hflight ▸ hf) hh
    rw [hretries, if_neg hk]
    exact h.slot f hf hh
  · rw [hretries] at hn
    split_ifs at hn
    · exact (hnew n hn).trans_le (by decide)
    · exact h.retries j n hn

/-- The frame in flight has ended: its slot has been dealt with before (R26, R28, R30). -/
theorem linkSound_endSending {l : Link} {cap : Option TimePair} (hcap : l.rx = .receiving → cap.isSome = true)
    (hretries : ∀ k n, l.retries k = some n → n ≤ 7) : LinkSound l.endSending cap :=
  linkSound_settleTx ⟨by simp, nofun, nofun, hcap, hretries⟩

/-- The receiver of a station that does not send leaves its frame (R31, R33). -/
theorem linkSound_listen {l l' : Link} {cap cap' : Option TimePair} {next : RxState} (h : LinkSound l cap)
    (free : l.tx ≠ .sending) (leaves : next ≠ .receiving)
    (hl : l' = { l with rx := l'.rx, rxBits := l'.rxBits, idle := l'.idle }) (hrx : l'.rx = next) :
    LinkSound l' cap' := by
  rw [hl, hrx]
  exact ⟨h.flight, h.defer, h.idle, h.slot, fun ht => absurd ht free, fun hr => absurd hr leaves, h.retries⟩

/-- The request of the frame in flight leaves its slot, if it still holds it (R26, R30). -/
theorem rx_dropped (l : Link) (f : InFlight) :
    (if f.holdsSlot then l.clearSlot (bodyKind f.frame.body) else l).rx = l.rx := by
  split_ifs
  · exact clearSlot_rx l _
  · rfl

theorem retries_dropped {l : Link} (h : ∀ k n, l.retries k = some n → n ≤ 7) (f : InFlight) (k : FrameKind) (n : Nat)
    (hn : (if f.holdsSlot then l.clearSlot (bodyKind f.frame.body) else l).retries k = some n) : n ≤ 7 := by
  split_ifs at hn
  · rw [retries_clearSlot] at hn
    split_ifs at hn
    exact h k n hn
  · exact h k n hn

/-- A yield drops the request that has yielded seven times before, or counts it (R28, R29). -/
theorem linkSound_yield {l : Link} {cap : Option TimePair} (h : LinkSound l cap) (f : InFlight) (bit : Nat) :
    LinkSound (l.yield f bit) cap := by
  unfold Link.yield
  dsimp only
  split_ifs with hdrop hhold
  · refine linkSound_endSending (fun hr => h.capture ?_) fun k n hn => ?_
    · have hr := (clearSlot_rx _ _).symm.trans hr
      exact hr
    · have hn := (retries_clearSlot _ _ k).symm.trans hn
      split_ifs at hn
      exact h.retries k n hn
  · refine linkSound_endSending (fun hr => h.capture ?_) fun k n hn => ?_
    · have hr := (countRetry_rx _ _).symm.trans hr
      exact hr
    · have hn := (retries_countRetry _ _ k).symm.trans hn
      split_ifs at hn with hk
      · obtain ⟨m, hm, rfl⟩ := Option.map_eq_some_iff.mp hn
        have hm : l.retries (bodyKind f.frame.body) = some m := hk ▸ hm
        simp only [dropsAtYield, hhold, hm, Bool.true_and, decide_eq_true_eq] at hdrop
        omega
      · exact h.retries k n hn
  · exact linkSound_endSending h.capture h.retries

theorem linkSound_change {c : Image} {l l' : Link} {cap cap' : Option TimePair} (h : LinkChange c l cap l' cap')
    (hs : LinkSound l cap) : LinkSound l' cap' := by
  cases h with
  | requestFault r => exact linkSound_replace .fault (retry := some 0) hs rfl rfl rfl (fun j => by cases j <;> rfl) (by simp)
  | requestLeave r => exact linkSound_replace .leave (retry := some 0) hs rfl rfl rfl (fun j => by cases j <;> rfl) (by simp)
  | requestPlan r => exact linkSound_replace .plan (retry := some 0) hs rfl rfl rfl (fun j => by cases j <;> rfl) (by simp)
  | requestBeacon =>
    exact linkSound_replace .beacon (retry := some 0) hs rfl rfl rfl (fun j => by cases j <;> rfl) (by simp)
  | withdrawBeacon => exact linkSound_replace .beacon (retry := none) hs rfl rfl rfl (fun j => by cases j <;> rfl) nofun
  | withdrawPlan => exact linkSound_replace .plan (retry := none) hs rfl rfl rfl (fun j => by cases j <;> rfl) nofun
  | launch s body pair own due formed =>
    subst own
    refine ⟨by simp [Link.launch], nofun, nofun, ?_, fun _ => rfl, fun _ => rfl, hs.retries⟩
    rintro f ⟨⟩ -
    exact retries_of_arbitrate formed
  | yield f bit flight => exact linkSound_yield hs f bit
  | lineFault f flight =>
    exact linkSound_listen (next := .settle) (linkSound_endSending (cap := cap)
      (l := { (if f.holdsSlot then l.clearSlot (bodyKind f.frame.body) else l) with txDrop := countUp l.txDrop })
      (fun hr => hs.capture ((rx_dropped l f).symm.trans hr)) (retries_dropped hs.retries f))
      (endSending_tx_ne_sending _) (by decide) rfl rfl
  | complete f flight =>
    exact linkSound_listen (next := .hunt) (linkSound_endSending (cap := cap)
      (l := { (if f.holdsSlot then l.clearSlot (bodyKind f.frame.body) else l) with framesTx := countUp l.framesTx })
      (fun hr => hs.capture ((rx_dropped l f).symm.trans hr)) (retries_dropped hs.retries f))
      (endSending_tx_ne_sending _) (by decide) rfl rfl
  | listen next cap' free leaves => exact linkSound_listen hs free leaves rfl rfl
  | hunt settled =>
    refine linkSound_listen (next := .hunt) hs (fun ht => ?_) (by decide) rfl rfl
    rw [hs.follows ht] at settled
    cases settled
  | follow pair hunting =>
    exact ⟨hs.flight, hs.defer, hs.idle, hs.slot, fun _ => rfl, fun _ => rfl, hs.retries⟩

theorem linkSound_of_view {s t : State} (h : t.view = s.view) (hs : LinkSound s.link s.timer.capture) :
    LinkSound t.link t.timer.capture := by
  simp only [State.view, View.mk.injEq] at h
  obtain ⟨-, -, -, -, -, -, hcap, hf, hl, hp, hb, htx, hflight, hrx, -⟩ := h
  have hwaiting : t.link.waiting = s.link.waiting := by simp only [Link.waiting, hf, hl, hp, hb]
  have hretries : ∀ k, t.link.retries k = s.link.retries k := fun k => by cases k <;> simp [Link.retries, hf, hl, hp, hb]
  exact ⟨by rw [hflight, htx]; exact hs.flight, by rw [htx, hwaiting]; exact hs.defer,
    by rw [htx, hwaiting]; exact hs.idle, by simp only [hflight, hretries]; exact hs.slot,
    by rw [htx, hrx]; exact hs.follows, by rw [hrx, hcap]; exact hs.capture,
    by simp only [hretries]; exact hs.retries⟩

theorem transmitSound_reset : TransmitSound State.reset := by
  refine (transmitSound_iff _).mpr ⟨loadSound_reset, fun _ => ⟨rfl, rfl⟩, ?_⟩
  exact ⟨by decide, nofun, nofun, fun _ h => (nomatch h), nofun, nofun, fun k n hn => by cases k <;> cases hn⟩

theorem transmitSound_inductive : Inductive TransmitSound where
  same s t h hs := by
    obtain ⟨hl, ho, hlink⟩ := (transmitSound_iff s).mp hs
    refine (transmitSound_iff t).mpr ⟨loadSound_of_view h hl, ?_, linkSound_of_view h hlink⟩
    simp only [State.view, View.mk.injEq] at h
    obtain ⟨-, -, -, -, -, -, -, hf, hl, hp, hb, htx, -, -, -, -, -, -, -, hconfig⟩ := h
    simp only [Link.waiting, hf, hl, hp, hb, htx, hconfig]
    exact ho
  reset := transmitSound_reset
  accepted s hs := hs.load.accepted.mp
  unconfigured s hs := hs.load.unconfigured
  load s l hc hlc hl hs := by
    obtain ⟨hload, ho, hlink⟩ := (transmitSound_iff s).mp hs
    exact (transmitSound_iff _).mpr ⟨loadSound_load hc hlc hl hload, fun _ => ho hc, hlink⟩
  start c s hc _ hs := by
    obtain ⟨-, ho, hlink⟩ := (transmitSound_iff s).mp hs
    obtain ⟨hoff, hwaiting⟩ := ho hc
    have hflight : ¬s.link.inFlight.isSome = true := by rw [hlink.flight, hoff]; decide
    exact (transmitSound_iff _).mpr ⟨loadSound_start c s, nofun,
      ⟨⟨fun h => absurd h hflight, nofun⟩, nofun, fun _ => hwaiting, hlink.slot, nofun, nofun, hlink.retries⟩⟩
  change c s t hc h hs := by
    obtain ⟨hload, -, hlink⟩ := (transmitSound_iff s).mp hs
    refine (transmitSound_iff t).mpr ⟨loadSound_change hc h hload, fun hn => ?_, ?_⟩
    · rw [h.loader.2, hc] at hn
      cases hn
    · cases h with
      | frame same => exact linkSound_of_view same hlink
      | link change => exact linkSound_change change hlink
      | _ => exact hlink

/-- Settles O58: `TransmitSound` is kept by every elementary change. -/
theorem stepKeepsTheTransmitter : Obligations.StepKeepsTheTransmitter :=
  fun _ _ => transmitSound_inductive.step

/-- Settles O60. -/
theorem invariantsHoldAtReset : Obligations.InvariantsHoldAtReset :=
  ⟨latchSound_inductive.reset, timerSound_reset, groupSound_reset, transmitSound_reset,
    ⟨loadSound_reset, Nat.le_refl 0, Nat.zero_le 64, .inl rfl, nofun⟩⟩

end Sys2Proof.Machine

/-! ### The step and its clock (log 2, log 21) -/

namespace Sys2Proof.Machine

open Sys2Proof.Safety

/-- Settles O1. -/
theorem stepTakesTheFrontCommand : Obligations.StepTakesTheFrontCommand := by
  intro s i rest h
  simp only [step, h]

/-! #### The waiting commands -/

theorem configured_pending {f : Image → State} {s : State} (hf : ∀ c, (f c).pending = s.pending) :
    (s.configured f).pending = s.pending := by
  cases hc : s.loader.config with
  | none => rw [configured_none hc]
  | some c => rw [configured_some hc]; exact hf c

theorem reach_pending {c : Image} {due possible : State → Bool} {act : State → State} {start s : State}
    (hact : ∀ t, (act t).pending = t.pending) (hstart : start.pending = s.pending) :
    (reach c due possible act start s).pending = s.pending :=
  reach_keeps (P := fun t => t.pending = s.pending) (fun t ht => (goOn_pending c t).trans ht)
    (fun t _ ht => (hact t).trans ht) hstart rfl

theorem timed_pending {c : Image} {due possible : State → Bool} {act : State → State} {s : State}
    (hact : ∀ t, (act t).pending = t.pending) : (timed c due possible act s).pending = s.pending :=
  reach_pending hact rfl

theorem received_pending {c : Image} {bits : List Bool} {due possible : State → Bool} {act : State → State} {s : State}
    (hact : ∀ t, (act t).pending = t.pending) : (received c bits due possible act s).pending = s.pending := by
  unfold received
  refine reach_pending hact ?_
  split_ifs
  · exact takeEdge_pending c bits s
  · rfl

theorem judgeImage_pending (image : List Byte) (s : State) : (judgeImage image s).pending = s.pending := by
  unfold judgeImage
  split_ifs
  · rfl
  · split
    · rfl
    · unfold accept
      dsimp only
      split_ifs
      · exact joinPath_pending _
      · rfl

theorem runCommand_pending (b : Byte) (s : State) : (runCommand b s).pending = s.pending := by
  unfold runCommand
  split_ifs
  · exact commandJoin_pending s
  · exact commandLeave_pending s
  · exact commandClear_pending s
  · rfl
  · rfl

theorem closeTxn_pending (s : State) : (closeTxn s).pending = s.pending := by
  have hact : (actAtEnd s).pending = s.pending := by
    unfold actAtEnd
    split
    case h_4 => exact runCommand_pending _ s
    all_goals rfl
  unfold closeTxn
  split
  · exact hact
  · rfl
  · rfl

theorem openTxn_pending (s : State) : (openTxn s).pending = s.pending := by
  unfold openTxn
  dsimp only
  split_ifs <;> exact closeTxn_pending s

theorem clockBits_pending (x : Xfer) (s : State) : (clockBits x s).pending = s.pending := by
  have hbits : (x.bits.foldl clockBit s).pending = s.pending := by
    induction x.bits generalizing s with
    | nil => rfl
    | cons b bits ih => exact (ih _).trans (clockBit_pending s b)
  unfold clockBits
  dsimp only
  split_ifs
  · exact (fallEdge_pending _).trans hbits
  · exact hbits

theorem transfer_pending (header : List Byte) (x : Xfer) (s : State) : (transfer header x s).pending = s.pending := by
  have hclock : (clockBits x (if x.opens then openTxn s else s)).pending = s.pending := by
    rw [clockBits_pending]
    split_ifs
    · exact openTxn_pending s
    · rfl
  unfold transfer
  dsimp only
  split_ifs at hclock ⊢ <;> simp_all [closeTxn_pending]

/-- Settles O3: each command's meaning answers a next state, and keeps the queue. -/
theorem everyCommandAnswersAndKeepsTheQueue : Obligations.EveryCommandAnswersAndKeepsTheQueue := by
  intro i s
  cases i <;> refine ⟨_, rfl, ?_⟩
  case powerOn | resetPin => rfl
  case loadStart | retryWaitEnd => split_ifs <;> rfl
  case attemptFailed why =>
    unfold afterFailure
    dsimp only
    split_ifs <;> rfl
  case imageCheck pulses image =>
    split_ifs
    · exact judgeImage_pending image _
    · rfl
  case cycleBoundary | beaconPoint | launch | lineFault | frameComplete | enterHunt | phasePoint | heldPhasePoint |
      intervalEnd | markEnd | lineSample =>
    exact configured_pending fun c => timed_pending fun t => by simp
  case trimWindowEnd | silenceLimit | planIssue | planApply | listenWindowEnd | joinWindowEnd | drainWindowEnd |
      sofEdge =>
    exact configured_pending fun c => by simp
  case yieldAt y =>
    refine configured_pending fun c => ?_
    split_ifs
    · rfl
    · exact timed_pending fun t => yieldNow_pending c y t
  case beacon | plan | fault | leaveFrame | clashFrame =>
    exact configured_pending fun c => received_pending fun t => deliver_pending c _ _ t
  case receivedFrameError => exact configured_pending fun c => received_pending fun t => frameErrorNow_pending t
  case startBitGlitch =>
    refine configured_pending fun c => reach_pending glitchNow_pending ?_
    split_ifs
    · exact takeDominant_pending _
    · rfl
  all_goals exact transfer_pending _ _ s

/-! #### An empty queue -/

theorem step_due {s : State} {i : Instr} (hp : s.pending = []) (hi : dueNow s = some i) : step s = exec i s := by
  simp only [step, hp, idleStep, hi]

theorem step_clock {s : State} (hp : s.pending = []) (hi : dueNow s = none) : step s = .next (clock s) := by
  simp only [step, hp, idleStep, hi]

theorem clock_configured {c : Image} {s : State} (hc : Configured c s) :
    clock s = if s.timer.divider + 1 < c.tickDiv then dividePeriod s else tick c s := by
  unfold clock
  rw [show s.loader.config = some c from hc]

/-- The level PB reads is the one the link read at this tick (R16). -/
theorem pbRecessive_tick (c : Image) (s : State) (hc : Configured c s) :
    pbRecessive (tick c s) = pbRecessive { s with timer := s.timer.tick, line := s.line.tail } := by
  have hc : s.loader.config = some c := hc
  simp only [pbRecessive, drivesPb, tick, hc]
  rfl

/-- Settles O2. -/
theorem emptyQueueRunsTheClock : Obligations.EmptyQueueRunsTheClock := by
  refine ⟨fun c s hc hp => ⟨fun i hi => step_due hp hi, fun hend => ?_, fun hdue hdiv => ?_, fun hdue hdiv => ?_⟩,
    fun s hc hp => ?_⟩
  · simp only [dueNow, show s.loader.config = some c from hc, nextOwn_atEnd hend, Option.map_some]
  · rw [step_clock hp hdue, clock_configured hc, if_pos hdiv]
    rfl
  · intro ends
    have hlevel : pbRecessive (tick c s) = pbRecessive { s with
        timer := s.timer.tick, line := s.line.tail, gen := s.gen.tick, mon := s.mon.tick } := pbRecessive_tick c s hc
    refine ⟨tick c s, by rw [step_clock hp hdue, clock_configured hc, if_neg (by omega)], ?_, rfl, rfl, ?_, ?_, rfl,
      rfl, rfl⟩
    · simp only [tick, Timer.tick, ends]
      by_cases h : s.timer.length ≤ s.timer.counter + 1
      · simp [h, Nat.not_lt.mpr h]
      · simp [h, Nat.not_le.mp h]
    · rw [hlevel]
      rintro (hr | hr) <;> simp [tick, Link.tick, idleAfter, hr]
    · rw [hlevel]
      intro hr
      simp [tick, Link.tick, idleAfter, hr]
  · have hnone : s.loader.load = .retryWait → s.loader.waited < 65536 → dueNow s = none := fun _ hw => by
      simp only [dueNow, hc, retryDue]
      simp [Nat.not_le.mpr hw]
    refine ⟨fun hl hw => ?_, fun hl hw => ?_, fun hl => ?_⟩
    · rw [step_clock hp (hnone hl hw)]
      simp only [clock, hc, waitPeriod, hl, if_true]
    · rw [step_due (i := .retryWaitEnd) hp (by simp [dueNow, hc, retryDue, hl, hw])]
      simp only [exec, execRetryWaitEnd, hl, if_true]
      rfl
    · rw [step_clock hp (by simp [dueNow, hc, retryDue, hl])]
      simp only [clock, hc, waitPeriod, hl, if_false]

end Sys2Proof.Machine

/-! ### Resets and the load -/

namespace Sys2Proof.Machine

open Sys2Proof.Safety

/-- Settles O4: the reset state is given by literals. -/
theorem resetStateHoldsTheTableValues : Obligations.ResetStateHoldsTheTableValues := by
  have hroster : ∀ j : Station, State.reset.roster[j] = Entry.cleared := fun j => by
    simp [State.reset, rosterReset]
  have htable : ∀ j : Station, State.reset.align.table[j] = none := fun j => by
    simp [State.reset, Align.reset, tableReset]
  unfold Obligations.ResetStateHoldsTheTableValues
  dsimp only
  refine ⟨?_, ?_, fun j => ?_, ⟨rfl, htable, rfl, rfl, rfl, rfl, rfl, rfl⟩, ?_, ?_, ?_, fun l => ?_, ?_, ?_, ?_, rfl, rfl,
    rfl, rfl⟩
  · exact ⟨rfl, rfl, rfl, rfl, rfl, rfl, rfl, rfl, rfl, rfl, rfl⟩
  · exact ⟨rfl, rfl, rfl, rfl, rfl, rfl, rfl, rfl, rfl, rfl, rfl, rfl, rfl⟩
  · rw [hroster]
    exact ⟨rfl, rfl, rfl, rfl, rfl, rfl, rfl, rfl, rfl⟩
  · exact ⟨rfl, rfl, rfl, rfl, rfl, rfl⟩
  · exact ⟨rfl, rfl, rfl, rfl, rfl, rfl, rfl, rfl, rfl, rfl⟩
  · exact ⟨rfl, rfl, rfl, rfl, rfl, rfl, rfl, rfl, rfl, rfl, rfl⟩
  · cases l <;> exact ⟨rfl, rfl, rfl, rfl, rfl⟩
  · exact ⟨rfl, rfl, rfl, rfl, rfl, rfl, rfl, rfl⟩
  · exact ⟨rfl, rfl, rfl, rfl, rfl, rfl⟩
  · exact ⟨rfl, rfl, rfl, rfl, rfl, rfl, rfl, rfl⟩

/-- Settles O5: both commands are the reset by their cause. -/
theorem resetCommandsReturnEveryBlock : Obligations.ResetCommandsReturnEveryBlock := by
  intro s
  dsimp only
  cases htxn : s.port.txn <;> simp [exec, execPowerOn, execResetPin, resetBy, htxn, Txn.atReset]

/-! #### Attempts (R179, R180, R182, R184) -/

/-- The image check keeps the transfer, the attempt and the reset's cause, whichever way it decides (R179, R180). -/
theorem judgeImage_loader (image : List Byte) (s : State) :
    (judgeImage image s).loader.wire = s.loader.wire ∧ (judgeImage image s).loader.buffer = s.loader.buffer ∧
      (judgeImage image s).loader.attempt = s.loader.attempt ∧ (judgeImage image s).loader.cause = s.loader.cause := by
  unfold judgeImage
  split_ifs
  · exact ⟨rfl, rfl, rfl, rfl⟩
  · split
    · exact ⟨rfl, rfl, rfl, rfl⟩
    · rw [accept_loader]
      exact ⟨rfl, rfl, rfl, rfl⟩

/-- Settles O6: one equation for each command of the loader. -/
theorem loadAttemptsBeginFailAndRepeat : Obligations.LoadAttemptsBeginFailAndRepeat := by
  intro s
  refine ⟨fun cause hl => ?_, fun why hl ha => ?_, fun why hl ha => ?_, fun pulses image hl => ?_, fun hl => ?_⟩
  · simp only [exec, execLoadStart, beginAttempt, hl]
    rfl
  · simp only [exec, execAttemptFailed, hl, if_true, afterFailure, if_neg (Nat.not_le.mpr ha)]
    rfl
  · simp only [exec, execAttemptFailed, hl, if_true, afterFailure, if_pos ha]
    rfl
  · exact ⟨_, exec_imageCheck_of_reading hl pulses image, judgeImage_loader image _⟩
  · simp only [exec, execRetryWaitEnd, hl, if_true]
    rfl

/-! #### Acceptance (R183, R140) -/

/-- An image in force after the check has passed every one (R178, R184). -/
theorem sound_of_judgeImage {image : List Byte} {s : State} {c : Image} (hnone : s.loader.config = none)
    (h : (judgeImage image s).loader.config = some c) : firstFailure image = none ∧ c = imageOf image := by
  have hrefused : ∀ cause index, (refuse cause index s).loader.config ≠ some c := fun cause index hr => by
    have hr : s.loader.config = some c := hr
    rw [hnone] at hr
    cases hr
  unfold judgeImage at h
  split_ifs at h
  · exact absurd h (hrefused _ _)
  · split at h
    · exact absurd h (hrefused _ _)
    · rename_i hsound
      rw [accept_loader] at h
      exact ⟨hsound, (Option.some.inj h).symm⟩

/-- A bit of a byte as a field of one bit. -/
theorem bitsAt_one (image : List Byte) (i k : Nat) : (bitsAt image i k 1 == 1) = (image.getD i 0).getLsbD k := by
  rw [← BitVec.testBit_toNat, Nat.testBit_eq_decide_div_mod_eq]
  rfl

theorem modeOfCode_mod (n : Nat) : modeOfCode (n % 4) = [LineMode.off, .cut, .hold, .latch].getD (n % 4) .off := by
  have h : n % 4 < 4 := Nat.mod_lt _ (by decide)
  interval_cases n % 4 <;> rfl

theorem four_pow_mod (n : Nat) : 4 ^ (n % 4) = [1, 4, 16, 64].getD (n % 4) 0 := by
  have h : n % 4 < 4 := Nat.mod_lt _ (by decide)
  interval_cases n % 4 <;> rfl

theorem two_pow_mod (n : Nat) : 2 ^ (n % 4) = [1, 2, 4, 8].getD (n % 4) 0 := by
  have h : n % 4 < 4 := Nat.mod_lt _ (by decide)
  interval_cases n % 4 <;> rfl

/-- The settings of a fault line as the table of R176 codes them. -/
theorem lineOf_fields (image : List Byte) (i : Nat) :
    (lineOf image i).mode = [LineMode.off, .cut, .hold, .latch].getD (byteAt image i % 4) .off ∧
      (lineOf image i).sample = [1, 4, 16, 64].getD (byteAt image i / 4 % 4) 0 ∧
      (lineOf image i).count = byteAt image i / 16 % 4 + 1 ∧
      (lineOf image i).groupTrip = (image.getD i 0).getLsbD 6 ∧
      (lineOf image i).asserted = (if (image.getD i 0).getLsbD 7 then .high else .low) := by
  refine ⟨?_, four_pow_mod _, rfl, bitsAt_one image i 6, ?_⟩
  · rw [← modeOfCode_mod]
    exact congrArg modeOfCode (bitsAt_zero image i 2)
  · rw [← bitsAt_one]
    simp [lineOf]

/-- The ranges of a fault line's settings (R176). -/
theorem lineOf_ranges (image : List Byte) (i : Nat) :
    (lineOf image i).sample ∈ [1, 4, 16, 64] ∧ 1 ≤ (lineOf image i).count ∧ (lineOf image i).count ≤ 4 := by
  obtain ⟨-, hsample, hcount, -⟩ := lineOf_fields image i
  rw [hsample, hcount]
  refine ⟨?_, by omega, by omega⟩
  have h : byteAt image i / 4 % 4 < 4 := Nat.mod_lt _ (by decide)
  interval_cases byteAt image i / 4 % 4 <;> decide

/-- The bits of a word that two bytes spell, high byte first. -/
theorem getLsbD_word (high low : Byte) {n : Nat} (hn : n < 16) :
    (BitVec.ofNat 16 (256 * high.toNat + low.toNat)).getLsbD n = if n < 8 then low.getLsbD n else high.getLsbD (n - 8) := by
  rw [BitVec.getLsbD_ofNat, show (256 : Nat) = 2 ^ 8 by rfl, Nat.testBit_two_pow_mul_add _ low.isLt]
  simp only [hn, decide_true, Bool.true_and, BitVec.testBit_toNat]

/-- Settles O9: an accepted image is `imageOf` of the bytes read, whose fields are those of the table. -/
theorem acceptedImageIsInRange : Obligations.AcceptedImageIsInRange := by
  intro s t pulses image c hl hnone hexec hc
  rw [exec_imageCheck_of_reading hl] at hexec
  obtain rfl := Host.Outcome.next.inj hexec
  obtain ⟨hsound, rfl⟩ := sound_of_judgeImage (s := { s with loader := s.loader.fill pulses image }) hnone hc
  intro byte word bit readAs
  obtain ⟨hp, hbeacon, hcorr, hlock, hlead, hmax, hdta, hdtb, hotb, hwalk, hcut, htrim, hceiling⟩ :=
    fieldRanges_of_sound hsound
  have hranges := timerRanges_imageOf hsound
  have hinit := toInt_initTrim (byteAt_lt image 17)
  have htick : byte 0 / 16 % 4 < 4 := Nat.mod_lt _ (by decide)
  have hbit : byte 0 / 64 < 4 := Nat.div_lt_of_lt_mul (byteAt_lt image 0)
  have htop : bitsAt image 0 6 2 = byte 0 / 64 := bitsAt_top image 0 rfl
  have hbitTime : (imageOf image).bitTime = [4, 8, 16, 32].getD (byte 0 / 64) 0 := by
    change 4 * 2 ^ bitsAt image 0 6 2 = _
    rw [htop]
    interval_cases byte 0 / 64 <;> rfl
  refine ⟨⟨?_, two_pow_mod _, hbitTime, rfl, bitsAt_zero image 3 6, bitsAt_one image 3 6, bitsAt_one image 3 7, ?_,
    bitsAt_one image 4 3, rfl, rfl, rfl, rfl, rfl, rfl, rfl, rfl, lineOf_fields image 14, lineOf_fields image 15, rfl,
    hinit, fun n hn => getLsbD_word _ _ hn⟩, ?_, ?_, hp.1, hp.2, ?_, ?_, hcorr.1, hcorr.2, hlock.1, hlock.2, hlead.1,
    hlead.2, hmax.1, hmax.2, hdta, ?_, hdtb, ?_, hotb, hwalk, ?_, (lineOf_ranges image 14).1, (lineOf_ranges image 14).2.1,
    (lineOf_ranges image 14).2.2, (lineOf_ranges image 15).1, (lineOf_ranges image 15).2.1, (lineOf_ranges image 15).2.2,
    ?_, ?_, ?_, ?_⟩
  · change (bitsAt image 0 0 4) % 16 = byte 0 % 16
    rw [bitsAt_zero]
    exact Nat.mod_mod _ _
  · exact congrArg (2 ^ ·) (bitsAt_zero image 4 3)
  · change 2 ^ (byte 0 / 16 % 4) ∈ _
    interval_cases byte 0 / 16 % 4 <;> decide
  · rw [hbitTime]
    interval_cases byte 0 / 64 <;> decide
  · exact Nat.le_of_lt_succ (Nat.mod_lt _ (by decide))
  · change 2 ^ bitsAt image 4 0 3 ∈ _
    interval_cases bitsAt image 4 0 3 <;> decide
  · exact Nat.le_of_lt_succ (byteAt_lt image 9)
  · exact Nat.le_of_lt_succ (byteAt_lt image 10)
  · exact Nat.le_of_lt_succ (byteAt_lt image 13)
  · change byteAt image 16 ≤ 63
    rw [bitsAt_top image 16 rfl] at hcut
    omega
  · exact hranges.2.2.2.2.1
  · exact hranges.2.2.2.2.2
  · change 0 ≤ ceilingOf _ _ _ _ _ _ at hceiling
    unfold ceilingOf at hceiling
    change (byteAt image 5 : Int) + 1 + byteAt image 13 + byteAt image 9 + byteAt image 10 + wordAt image 11 ≤
      wordAt image 1
    omega

/-! #### The first phase point (R140, log 14) -/

/-- A phase point that is due with no work of a boundary and no interval's end before it is the next own step. -/
theorem nextOwn_phasePoint {c : Image} {s : State} (hend : s.timer.atEnd = false) (hs : Settled c s)
    (hi : intervalDue c s = false) (hd : phaseDue s = true) :
    nextOwn c s = some ⟨true, reachPhasePoint c, .phasePoint⟩ := by
  have hworks : (boundarySteps c s ++ boundaryWorks c s).find? OwnStep.due = none := by
    rw [List.find?_append, Option.or_eq_none_iff]
    refine ⟨by simp [boundarySteps, hend], ?_⟩
    have := (worksDue_eq_false c s).mpr hs
    rw [worksDue, List.any_eq_false] at this
    exact List.find?_eq_none.mpr this
  have hgate : (gateSteps c s).find? OwnStep.due = some ⟨true, reachPhasePoint c, .phasePoint⟩ := by
    simp [gateSteps, hi, hd]
  unfold nextOwn ownSteps
  rw [List.append_assoc, List.append_assoc, List.append_assoc, List.find?_append, hworks, Option.none_or,
    List.find?_append, hgate]
  rfl

/-- Without a change of membership there is nothing to settle in a station that has just started: its roster is empty,
no plan is pending and its windows have just begun. -/
theorem settled_started {c : Image} {s : State} (hroster : s.roster = rosterReset) (hplan : s.plan = PlanCtl.reset)
    (halign : s.align = Align.reset) (hlisten : s.member.listenWindow = none ∨ s.member.listenWindow = some 0)
    (hstate : s.member.state = .detached ∨ s.member.state = .listen) : Settled c s where
  silence j := by
    have hj : s.roster[j] = Entry.cleared := by simp [hroster, rosterReset]
    simp [silenceDue, hj, Entry.cleared, silenceLimit]
  apply := by simp [applyDue, hplan, PlanCtl.reset]
  listen := by rcases hlisten with h | h <;> simp [listenDue, windowOver, h, listenLength]
  joinEnd := by rcases hstate with h | h <;> simp [joinDue, h]
  drain := by rcases hstate with h | h <;> simp [drainDue, h]
  trim := by simp [trimDue, halign, Align.reset]
  issue := by simp [issueDue, hplan, PlanCtl.reset]

/-- The state of a station whose image has just been accepted, before its first phase point (R183). -/
theorem accept_reading {s : State} {c : Image} (hm : s.member = Member.reset) (hlink : s.link = Link.reset)
    (halign : s.align = Align.reset) :
    accept c s = { start c s with
      member := if c.autoJoin then { Member.reset with state := .listen, listenWindow := some 0 }
        else { Member.reset with state := .detached } } := by
  have hmove : joinPath (start c s) = moveTo .listen (start c s) := by
    unfold joinPath
    rw [if_pos (by simp [start, halign, Align.reset])]
  have hstart : (start c s).link.enterState .listen = (start c s).link := by
    simp only [start, hlink]
    rfl
  unfold accept
  dsimp only
  split_ifs with hjoin
  · rw [hmove]
    unfold moveTo
    rw [hstart]
    simp only [start, hm]
    rfl
  · simp only [start, hm]
    rfl

/-- The generator at the first phase point of a station that is not ACTIVE (R140, R141, R145). -/
theorem genAfter_first {c : Image} (hp : 0 < c.p) (demand : BitVec 12) (ceiling : Nat) :
    genAfter c false false { Gen.reset with staged := demand, ceiling := ceiling } =
      { Gen.reset with
        staged := demand, ceiling := ceiling, kind := some .dark, dueSeq := 1, otaEff := min demand.toNat ceiling } := by
  have hadvance : dueAdvance c.p 0 0 = 1 := by
    unfold dueAdvance
    rw [if_neg (by simp; omega), if_neg (by simp)]
  simp only [genAfter, Gen.take, Gen.walk, Gen.reset, walkMove, if_true, hadvance, Gen.begin, Gen.mark]
  simp [movedPhi]

/-- Settles O8: acceptance is one equation, and the phase point that follows is due there and ends no cycle. -/
theorem soundImageStartsTheStation : Obligations.SoundImageStartsTheStation := by
  intro s pulses image demand pinA pinB hl hcrc hsound htimer hlink halign hm hplan hgen hmon c ceiling clipped
  have hp : 256 ≤ c.p := (timerRanges_imageOf hsound).1
  have hpos : 0 < c.p := by omega
  let filled := { s with loader := s.loader.fill pulses image }
  let t := accept c filled
  have ht : t = { start c filled with
      member := if c.autoJoin then { Member.reset with state := .listen, listenWindow := some 0 }
        else { Member.reset with state := .detached } } := accept_reading hm hlink halign
  have hconf : Configured c t := by rw [ht]; rfl
  have htgen : t.gen = { Gen.reset with staged := demand, ceiling := ceiling } := by rw [ht]; simp [start, filled, hgen]; rfl
  have httimer : t.timer = ⟨.running, 0, 0, false, 0, c.p, 0, 0, 0, c.initTrim, 0, none, 0⟩ := by
    rw [ht]; simp only [start, filled, htimer]; rfl
  have htmon : t.mon = { s.mon with run := .running } := by rw [ht]; rfl
  have htstate : t.member.state = .detached ∨ t.member.state = .listen := by rw [ht]; cases c.autoJoin <;> simp
  have hdue : phaseDue t = true := by
    simp [phaseDue, phasePassed, phaseOffset, htgen, httimer, Gen.reset, hpos]
  have hinactive : (t.member.state == .active) = false := by rcases htstate with h | h <;> rw [h] <;> rfl
  have hu : reachPhasePoint c t = { t with
      gen := { t.gen with kind := some .dark, dueSeq := 1, otaEff := min demand.toNat ceiling }
      port := if ceiling < demand.toNat then t.port.raise .demandClipped else t.port } := by
    unfold reachPhasePoint
    rw [if_neg (by simp [mustHold, htgen, Gen.reset]), takePhasePoint_first (by rw [htgen]; rfl)
      (by rw [htmon, hmon]; rfl) (by rw [htmon, hmon]; rfl)]
    simp only [hinactive, Bool.false_and, htgen, genAfter_first hpos]
    simp only [htmon, hmon]
    rfl
  have hlinkt : t.link = { Link.reset with tx := .idle, rx := .settle } := by
    rw [ht]
    simp only [start, Link.begin, filled, hlink]
    rfl
  have hexec : exec .phasePoint t = .next (reachPhasePoint c t) := by
    simp only [exec, execPhasePoint, configured_some hconf]
    exact congrArg _ (timed_now hdue)
  have hstep (hroster : s.roster = rosterReset) (hpending : s.pending = []) : step t = .next (reachPhasePoint c t) := by
    have hsettled : Settled c t := settled_started (by rw [ht]; exact hroster) (by rw [ht]; exact hplan)
      (by rw [ht]; exact halign) (by rw [ht]; cases c.autoJoin <;> simp [Member.reset]) htstate
    rw [step_empty hconf (by rw [ht]; exact hpending), nextOwn_phasePoint (by rw [httimer]) hsettled
      (by simp [intervalDue, intervalLength, htgen, Gen.reset]) hdue]
  refine ⟨t, reachPhasePoint c t, ?_, httimer, hlinkt, by rw [ht]; rfl, by rw [ht]; rfl, by rw [ht]; rfl, by rw [ht],
    htgen, htmon, by rw [ht]; rfl, by rw [ht]; rfl, by rw [ht]; rfl, by rw [ht]; rfl, by rw [ht]; rfl, by rw [ht]; rfl,
    by rw [ht]; rfl, hexec, hstep, by rw [hu], ?_, by rw [hu]⟩
  · rw [exec_imageCheck_of_reading hl, judgeImage_of_sound hcrc hsound]
  · have hport : t.port = { s.port with mask := c.alertMask } := by rw [ht]; rfl
    rw [hu]
    by_cases hclip : clipped
    · have : ceiling < demand.toNat := hclip
      simp only [this, hclip, if_true, hport]
      rfl
    · have : ¬ceiling < demand.toNat := hclip
      simp only [this, hclip, if_false, hport]

end Sys2Proof.Machine

/-! ### The cycle boundary in its default order (R3 to R6, R36, R53, R72 to R79, R88) -/

namespace Sys2Proof.Machine

open Sys2Proof.Safety

theorem clamp_eq_max_min {lo hi : Int} (h : lo ≤ hi) (x : Int) : clamp lo hi x = max lo (min hi x) := by
  unfold clamp
  split_ifs <;> omega

theorem clamp_of_mem {lo hi x : Int} (hlo : lo ≤ x) (hhi : x ≤ hi) : clamp lo hi x = x := by
  unfold clamp
  rw [if_neg (by omega), if_neg (by omega)]

theorem corrLimit_nonneg (c : Image) (m : Membership) : 0 ≤ corrLimit c m := by
  cases m <;> exact Int.natCast_nonneg _

/-- The limit on the correction outside ACTIVE (R4). -/
theorem corrLimit_of_ne_active (c : Image) {m : Membership} (h : m ≠ .active) : corrLimit c m = (c.p / 8 : Nat) := by
  cases m <;> first | rfl | exact absurd rfl h

/-- What a boundary does to the timer, whatever its order of works: all but the correction and the length is the turn's
(R3, R6), and those two follow from the membership state in which the cycle begins (R4). -/
theorem boundary_timer (c : Image) (order : List BoundaryWork) (s : State) :
    ∃ corr : Int, (boundary c order s).timer = { s.timer.turn with
      corr := clamp (-(corrLimit c (boundary c order s).member.state)) (corrLimit c (boundary c order s).member.state) corr
      length := ((c.p : Int) + clamp (-(corrLimit c (boundary c order s).member.state))
        (corrLimit c (boundary c order s).member.state) corr + s.timer.turn.trimTick).toNat } := by
  have hworks := sameTurn_takeWorks c (hasTimebase s) s.timer.corr (workOrder order) (turn c s)
  refine ⟨(takeWorks c (hasTimebase s) s.timer.corr (workOrder order) (turn c s)).timer.corr, ?_⟩
  change Timer.limit (takeWorks c (hasTimebase s) s.timer.corr (workOrder order) (turn c s)).timer c _ = _
  unfold Timer.limit
  rw [hworks]
  rfl

/-- Settles O10: the timer's turn, with the length that `boundary_timer` gives. -/
theorem cycleBoundaryTurnsTheCycle : Obligations.CycleBoundaryTurnsTheCycle := by
  intro c s order h
  refine ⟨boundary c order s, cycleBoundary_atEnd h, ?_⟩
  obtain ⟨corr, htimer⟩ := boundary_timer c order s
  have hlimit := corrLimit_nonneg c (boundary c order s).member.state
  have hclamp := clamp_mem (lo := -(corrLimit c (boundary c order s).member.state))
    (hi := corrLimit c (boundary c order s).member.state) (by omega) corr
  have haccumulate : s.timer.turn.acc = (accumulate s.timer.acc s.timer.trim).1 ∧
      s.timer.turn.trimTick = (accumulate s.timer.acc s.timer.trim).2 := ⟨rfl, rfl⟩
  obtain ⟨hacc, htick⟩ := haccumulate
  rw [htimer]
  refine ⟨rfl, rfl, rfl, rfl, rfl, fun hup => ?_, fun hdown => ?_, fun hin => ?_, rfl, fun hm => ?_, fun hm => ?_, rfl,
    boundary_loader c order s, boundary_pending c order s⟩
  · dsimp only
    rw [hacc, htick, accumulate, if_pos hup]
    exact ⟨rfl, rfl⟩
  · dsimp only
    rw [hacc, htick, accumulate, if_neg (by omega), if_pos hdown]
    exact ⟨rfl, rfl⟩
  · dsimp only
    rw [hacc, htick, accumulate, if_neg (by omega), if_neg (by omega)]
    exact ⟨rfl, rfl⟩
  · rw [hm] at hclamp ⊢
    exact hclamp
  · rw [corrLimit_of_ne_active c hm] at hclamp ⊢
    exact hclamp

/-! #### The three works that belong to every boundary -/

/-- The works of a boundary for which the sender names no order (log 5). -/
theorem boundary_nil (c : Image) (s : State) : boundary c [] s =
    fixLength c (takeWork c (hasTimebase s) s.timer.corr .planWork
      (fixBeaconPoint c (alignBoundary c (hasTimebase s) s.timer.corr (turn c s)))) := rfl

/-- The Alignment Unit's work changes the correction, its own records and the port (R72 to R79). -/
theorem alignBoundary_frame (c : Image) (had : Bool) (ended : Int) (s : State) :
    alignBoundary c had ended s = { s with
      timer := { s.timer with corr := (alignBoundary c had ended s).timer.corr }
      align := (alignBoundary c had ended s).align
      port := (alignBoundary c had ended s).port } := by
  have hlock : ∀ (m : Int) (u : State), lockWork c m u =
      { u with align := (lockWork c m u).align, port := (lockWork c m u).port } := fun m u => by
    unfold lockWork lockPulling lockLocked
    dsimp only
    split <;> (try split_ifs) <;> rfl
  unfold alignBoundary
  dsimp only
  split_ifs
  · rfl
  · unfold handCorrection
    rw [hlock]
  · rfl

theorem repeatIssued_frame (s : State) :
    repeatIssued s = { s with link := (repeatIssued s).link, plan := (repeatIssued s).plan } := by
  unfold repeatIssued
  split
  · rfl
  · split_ifs <;> rfl

theorem evaluate_frame (c : Image) (s : State) : evaluate c s = { s with plan := (evaluate c s).plan } := by
  unfold evaluate
  split_ifs <;> rfl

/-- The rest of the Plan Controller's work changes the link and the plan records alone (R125). -/
theorem planRest_frame (c : Image) (s : State) :
    planRest c s = { s with link := (planRest c s).link, plan := (planRest c s).plan } := by
  unfold planRest
  rw [evaluate_frame, repeatIssued_frame]
  rfl

theorem planWork_frame (c : Image) (had : Bool) (ended : Int) (s : State) :
    takeWork c had ended .planWork s = { s with
      link := (takeWork c had ended .planWork s).link, plan := (takeWork c had ended .planWork s).plan } := by
  unfold takeWork
  dsimp only
  split_ifs
  · rfl
  · exact planRest_frame c s

/-- A repeat is no business of the beacon schedule (R36, R127). -/
theorem planRest_beaconPoint (c : Image) (s : State) : (planRest c s).link.beaconPoint = s.link.beaconPoint := by
  unfold planRest
  rw [evaluate_frame]
  change (repeatIssued (clearRelay s)).link.beaconPoint = _
  unfold repeatIssued
  split
  · rfl
  · split_ifs
    · exact requestPlan_beaconPoint _ _
    · rfl

/-- What a boundary in the default order does to each block but the Plan Controller and the timer. -/
theorem boundary_nil_fields (c : Image) (s : State) :
    (boundary c [] s).roster = (ageRoster c s).roster ∧
      (boundary c [] s).member = s.member.countWindows ∧ (boundary c [] s).gen = s.gen ∧
      (boundary c [] s).align = (alignBoundary c (hasTimebase s) s.timer.corr (turn c s)).align ∧
      (boundary c [] s).port = (alignBoundary c (hasTimebase s) s.timer.corr (turn c s)).port := by
  rw [boundary_nil]
  unfold fixLength
  rw [planWork_frame, fixBeaconPoint, alignBoundary_frame]
  exact ⟨rfl, rfl, rfl, rfl, rfl⟩

/-- The beacon point of the cycle that begins (R36). -/
theorem boundary_nil_beaconPoint (c : Image) (s : State) : (boundary c [] s).link.beaconPoint =
    if beaconingCycle c (s.timer.seq + 1) s.member.state then
      some (if s.member.state = .joining then joiningPoint c else s.gen.phi)
    else none := by
  have hplan : ∀ u : State, (takeWork c (hasTimebase s) s.timer.corr .planWork u).link.beaconPoint = u.link.beaconPoint :=
    fun u => by
      unfold takeWork
      dsimp only
      split_ifs
      · rfl
      · exact planRest_beaconPoint c u
  rw [boundary_nil]
  change (takeWork c _ _ .planWork _).link.beaconPoint = _
  rw [hplan]
  change newBeaconPoint c _ = _
  rw [newBeaconPoint, alignBoundary_frame]
  rfl

/-- Settles O12. -/
theorem boundaryAgesCountsAndSchedules : Obligations.BoundaryAgesCountsAndSchedules := by
  intro c s h
  obtain ⟨hroster, hmember, -, -, -⟩ := boundary_nil_fields c s
  have haged : ∀ j : Station, (boundary c [] s).roster[j] =
      if j = c.station then s.roster[j] else (s.roster[j]).age := fun j => by
    rw [hroster]
    exact getElem_mapPeers _ _ _ _
  refine ⟨boundary c [] s, cycleBoundary_atEnd h, ?_, fun j hj habsent => ?_, fun j hj hpresent => ?_, hmember, ?_⟩
  · rw [haged, if_pos rfl]
  · rw [haged, if_neg hj, Entry.age, if_pos habsent]
  · rw [haged, if_neg hj, Entry.age, if_neg hpresent]
  · rw [boundary_nil_beaconPoint, beaconingCycle, joiningPoint]
    cases s.member.state <;> simp [beacons]

/-! #### Measurement, correction and lock (R72 to R79) -/

/-- Without a timebase the correction is 0 and nothing else happens (R72). -/
theorem alignBoundary_free (c : Image) (ended : Int) (s : State) :
    alignBoundary c false ended s = handCorrection 0 s := rfl

/-- An unmeasured cycle: the records end their cycle, and the correction is 0 (R72, R76). -/
theorem alignBoundary_unmeasured (c : Image) {ended : Int} {s : State} (h : tableValues s.align.table = []) :
    alignBoundary c true ended s = handCorrection 0 { s with align := s.align.endCycle ended } := by
  simp [alignBoundary, h]

/-- A measured cycle (R72, R73, R76, R78, R79). -/
theorem alignBoundary_measured (c : Image) {ended : Int} {s : State} (h : tableValues s.align.table ≠ []) :
    alignBoundary c true ended s = handCorrection (correctionFor c s.member.state (tableMean s.align.table))
      (lockWork c (tableMean s.align.table) { s with align := s.align.endCycle ended }) := by
  simp [alignBoundary, h, Align.endCycle]

/-- The limit of the membership state leaves the correction computed in it alone (R4, R73). -/
theorem clamp_correctionFor {c : Image} (h : c.corrMax ≤ c.p / 8) (m : Membership) (mean : Int) :
    clamp (-(corrLimit c m)) (corrLimit c m) (correctionFor c m mean) = correctionFor c m mean := by
  have hcorr := clamp_mem (lo := -(c.corrMax : Int)) (hi := c.corrMax) (by omega) (mean.tdiv 2)
  have heighth := clamp_mem (lo := -((c.p / 8 : Nat) : Int)) (hi := (c.p / 8 : Nat)) (by omega) mean
  have hle : (c.corrMax : Int) ≤ (c.p / 8 : Nat) := by exact_mod_cast h
  cases m <;> exact clamp_of_mem (by simp only [corrLimit, correctionFor]; omega)
    (by simp only [corrLimit, correctionFor]; omega)

/-- The correction of the cycle that begins at a boundary in the default order (R4). -/
theorem boundary_nil_corr (c : Image) (s : State) : (boundary c [] s).timer.corr =
    clamp (-(corrLimit c s.member.state)) (corrLimit c s.member.state)
      (alignBoundary c (hasTimebase s) s.timer.corr (turn c s)).timer.corr := by
  rw [boundary_nil]
  unfold fixLength
  rw [planWork_frame, fixBeaconPoint, alignBoundary_frame]
  rfl

theorem hasTimebase_iff (s : State) : hasTimebase s = true ↔ s.align.state ≠ .free := by
  simp [hasTimebase]

theorem getElem_tableReset (j : Station) : tableReset[j] = none := by
  simp [tableReset]

theorem tableMean_of_empty {t : PerStation (Option Int)} (h : tableValues t = []) : tableMean t = 0 := by
  simp [tableMean, h]

/-- The lock state machine changes the alignment state and the lock streak of the records (R78, R79). -/
theorem lockWork_align (c : Image) (m : Int) (s : State) : (lockWork c m s).align = { s.align with
    state := (lockWork c m s).align.state, lockStreak := (lockWork c m s).align.lockStreak } := by
  unfold lockWork lockPulling lockLocked
  dsimp only
  split <;> (try split_ifs) <;> rfl

/-- The streak that PULLING counts, and LOCKED at 8 (R78). -/
theorem lockWork_pulling {c : Image} {m : Int} {s : State} (h : s.align.state = .pulling) :
    lockWork c m s = if m.natAbs ≤ c.lockWin ∧ 7 ≤ s.align.lockStreak then
        raise .lockGained { s with align := { s.align with state := .locked, lockStreak := 0 } }
      else { s with align := { s.align with
        lockStreak := if m.natAbs ≤ c.lockWin then s.align.lockStreak + 1 else 0 } } := by
  unfold lockWork lockPulling
  rw [h]
  by_cases hin : m.natAbs ≤ c.lockWin <;> simp [hin]

/-- The streak that LOCKED counts, and PULLING at 4 (R79). -/
theorem lockWork_locked {c : Image} {m : Int} {s : State} (h : s.align.state = .locked) :
    lockWork c m s = if c.lockWin < m.natAbs ∧ 3 ≤ s.align.lockStreak then
        raise .lockLost { s with align := { s.align with state := .pulling, lockStreak := 0 } }
      else { s with align := { s.align with
        lockStreak := if m.natAbs ≤ c.lockWin then 0 else s.align.lockStreak + 1 } } := by
  unfold lockWork lockLocked
  rw [h]
  by_cases hin : m.natAbs ≤ c.lockWin
  · simp [hin, Nat.not_lt.mpr hin]
  · simp [hin, Nat.not_le.mp hin]

/-- Settles O11. -/
theorem boundaryMeasuresAndCorrects : Obligations.BoundaryMeasuresAndCorrects := by
  intro c s h hcorr values m member
  obtain ⟨-, hmember, -, halign, hport⟩ := boundary_nil_fields c s
  have htimer := boundary_nil_corr c s
  have hvalues : values = tableValues (turn c s).align.table := rfl
  have hlimit := corrLimit_nonneg c s.member.state
  have hzero : clamp (-(corrLimit c s.member.state)) (corrLimit c s.member.state) 0 = 0 :=
    clamp_of_mem (by omega) (by omega)
  refine ⟨boundary c [] s, cycleBoundary_atEnd h, by rw [hmember]; rfl, ?_⟩
  by_cases hfree : s.align.state = .free
  · have hnone : hasTimebase s = false := by simp [hasTimebase, hfree]
    rw [halign, hport, htimer, hnone, alignBoundary_free]
    exact ⟨fun _ => ⟨rfl, hzero⟩, fun hn => absurd hfree hn, fun _ => rfl, fun hn => absurd hfree hn,
      fun hn => absurd hfree hn⟩
  · rw [(hasTimebase_iff s).mpr hfree] at halign hport htimer
    by_cases hempty : values = []
    · rw [halign, hport, htimer, alignBoundary_unmeasured c (hvalues ▸ hempty)]
      exact ⟨fun hf => absurd hf hfree, fun _ => ⟨getElem_tableReset, rfl, rfl, rfl, rfl⟩, fun _ => rfl,
        fun _ _ => ⟨tableMean_of_empty (hvalues ▸ hempty), hzero, rfl, rfl⟩, fun _ hn => absurd hempty hn⟩
    · rw [alignBoundary_measured c (hvalues ▸ hempty)] at halign hport htimer
      let ended := { turn c s with align := s.align.endCycle s.timer.corr }
      have hlockAlign : (boundary c [] s).align = (lockWork c m ended).align := halign
      have hlockPort : (boundary c [] s).port = (lockWork c m ended).port := hport
      rw [hlockAlign, hlockPort, htimer]
      have hcorrection : clamp (-(corrLimit c s.member.state)) (corrLimit c s.member.state)
          (correctionFor c s.member.state m) = correctionFor c s.member.state m := clamp_correctionFor hcorr _ _
      refine ⟨fun hf => absurd hf hfree, fun _ => ?_, fun hf => (hf.elim hfree hempty).elim,
        fun _ hn => absurd hn hempty, fun _ _ => ⟨?_, fun hm => ?_, fun hm => ?_, fun hp => ?_, fun hl => ?_⟩⟩
      · rw [lockWork_align]
        exact ⟨getElem_tableReset, rfl, rfl, rfl, rfl⟩
      · rw [lockWork_align]
        rfl
      · refine hcorrection.trans ?_
        rw [← clamp_eq_max_min (by omega)]
        rcases hm with hm | hm | hm <;> rw [hm] <;> rfl
      · refine hcorrection.trans ?_
        rw [← clamp_eq_max_min (by omega)]
        cases hs : s.member.state <;> simp_all [member, correctionFor]
      · rw [lockWork_pulling (c := c) (m := m) (s := ended) hp]
        refine ⟨fun hout => ?_, fun hin hshort => ?_, fun hin hlong => ?_⟩
        · rw [if_neg (by omega), if_neg (by omega)]
          exact ⟨rfl, rfl, rfl⟩
        · rw [if_neg (fun hboth => absurd hboth.2 (Nat.not_le.mpr hshort)), if_pos hin]
          exact ⟨rfl, rfl, rfl⟩
        · rw [if_pos ⟨hin, hlong⟩]
          exact ⟨rfl, rfl, rfl⟩
      · rw [lockWork_locked (c := c) (m := m) (s := ended) hl]
        refine ⟨fun hin => ?_, fun hout hshort => ?_, fun hout hlong => ?_⟩
        · rw [if_neg (by omega), if_pos hin]
          exact ⟨rfl, rfl, rfl⟩
        · rw [if_neg (fun hboth => absurd hboth.2 (Nat.not_le.mpr hshort)), if_neg (by omega)]
          exact ⟨rfl, rfl, rfl⟩
        · rw [if_pos ⟨hout, hlong⟩]
          exact ⟨rfl, rfl, rfl⟩

end Sys2Proof.Machine

/-! ### The other steps of a boundary, the beacon point and the issue (R7, R24, R36, R53, R77, R93, R99, R123, R126) -/

namespace Sys2Proof.Machine

open Sys2Proof.Safety

/-- What a command does that a configured station alone obeys. -/
theorem next_configured {c : Image} {s t : State} {f : Image → State} (hc : Configured c s) (h : f c = t) :
    (Host.Outcome.next (s.configured f) : Result) = .next t :=
  congrArg _ ((configured_some hc f).trans h)

theorem clamp_trimStep {trim : Int} (hlo : -127 ≤ trim) (hhi : trim ≤ 127) (sum : Int) :
    clamp (-127) 127 (trim + signStep sum) =
      if 0 < sum then min 127 (trim + 1) else if sum < 0 then max (-127) (trim - 1) else trim := by
  rw [clamp_eq_max_min (by omega), signStep]
  split_ifs <;> omega

/-- Settles O14. -/
theorem trimWindowEndStepsTrim : Obligations.TrimWindowEndStepsTrim := by
  intro c s hc hcount hlo hhi t'
  have hdue : trimDue s = true := decide_eq_true hcount
  have hstep : takeTrimEnd s = { s with
      timer := { s.timer with trim := t' }, align := { s.align with windowCount := 0, windowSum := 0 } } := by
    rw [takeTrimEnd, if_pos hdue, Timer.trimBy, clamp_trimStep hlo hhi]
  exact next_configured hc hstep

/-- The silence limit by the table of R53. -/
theorem testSilence_eq (e : Entry) (c : Image) (inCur : Bool) : e.testSilence c inCur =
    if silenceLimit c ≤ e.silence ∧ inCur = true ∧ (e.presence = .member ∨ e.presence = .excluded) then
      { e with presence := .silent }
    else if silenceLimit c ≤ e.silence ∧ inCur = false ∧ (e.presence = .heard ∨ e.presence = .excluded) then
      Entry.cleared
    else e := by
  unfold Entry.testSilence
  by_cases hlimit : silenceLimit c ≤ e.silence
  · cases inCur <;> cases hp : e.presence <;> simp [hlimit, silenceChange]
  · simp [hlimit]

/-- The entry of a peer whose silence limit is taken (R53). -/
theorem takeSilence_entry {c : Image} {s : State} {j : Station} (hj : j ≠ c.station) :
    (takeSilence c j s).roster[j] = (s.roster[j]).testSilence c (inCurrent s j) := by
  rw [takeSilence, if_neg hj, updateEntry_roster, getElem_putAt, if_pos rfl]

theorem takeSilence_frame (c : Image) (j : Station) (s : State) :
    takeSilence c j s = { s with roster := (takeSilence c j s).roster } := by
  unfold takeSilence
  split_ifs <;> rfl

theorem takeSilence_other {c : Image} {s : State} {j k : Station} (hk : k ≠ j) :
    (takeSilence c j s).roster[k] = s.roster[k] := by
  by_cases hj : j = c.station
  · simp [takeSilence, hj]
  · have hroster : (takeSilence c j s).roster = putAt s.roster j ((s.roster[j]).testSilence c (inCurrent s j)) := by
      rw [takeSilence, if_neg hj, updateEntry_roster]
    simp only [hroster]
    exact (getElem_putAt _ _ _ _).trans (if_neg hk)

/-- Settles O15. -/
theorem silenceLimitChangesPresence : Obligations.SilenceLimitChangesPresence := by
  intro c s j hc hj hlimit
  refine ⟨takeSilence c j s, next_configured hc rfl, takeSilence_frame c j s,
    fun k hk => takeSilence_other hk, fun hout hp => ?_, fun hin hp => ?_, fun hp => ?_⟩
  · rw [takeSilence_entry hj, testSilence_eq, if_neg (by simp [hout]), if_pos ⟨hlimit, hout, hp⟩]
  · rw [takeSilence_entry hj, testSilence_eq, if_pos ⟨hlimit, hin, hp⟩]
  · rw [takeSilence_entry hj, testSilence_eq]
    generalize s.roster[j] = e at hp ⊢
    rcases hp with hp | hp | hp <;> simp [hp]

/-! #### Requests -/

/-- A link with a waiting request is in DEFER, unless it is OFF or SENDING (R25). -/
theorem settleTx_tx_of_waiting {l : Link} (h : l.waiting = true) :
    (l.tx = .idle ∨ l.tx = .defer → l.settleTx.tx = .defer) ∧ (l.tx = .sending → l.settleTx.tx = .sending) := by
  constructor
  · rintro (htx | htx) <;> simp [settleTx_tx, htx, h]
  · intro htx
    simp [settleTx_tx, htx]

/-- The transmitter after a BEACON request (R23, R25). -/
theorem requestBeacon_tx (l : Link) :
    (l.tx = .idle ∨ l.tx = .defer → l.requestBeacon.tx = .defer) ∧ (l.tx = .sending → l.requestBeacon.tx = .sending) :=
  settleTx_tx_of_waiting (l := { l.loseSlot .beacon with qBeacon := some ⟨(), 0⟩ }) (by simp [Link.waiting])

/-- Settles O16. -/
theorem beaconPointRequestsABeacon : Obligations.BeaconPointRequestsABeacon := by
  intro c s point hc hpoint hdone hcounter
  have hdue : beaconDue s = true := by simp [beaconDue, hpoint, hdone, hcounter]
  have hexec : exec .beaconPoint s = .next (beaconNow s) :=
    next_configured hc (timed_now hdue)
  obtain ⟨hwaits, hsends⟩ := requestBeacon_tx s.link
  constructor
  · intro hm
    have hbeacons : beacons s.member.state = true := by rcases hm with hm | hm | hm <;> rw [hm] <;> rfl
    have hnow : beaconNow s = { s with link := { s.link.requestBeacon with beaconDone := true } } := by
      rw [beaconNow, if_pos hbeacons]
    refine ⟨beaconNow s, hexec, ?_⟩
    rw [hnow]
    exact ⟨rfl, requestBeacon_qBeacon _, requestBeacon_qFault _, requestBeacon_qLeave _, requestBeacon_qPlan _,
      requestBeacon_backoff _, requestBeacon_rx _, hwaits, hsends, requestBeacon_frame _⟩
  · intro hm
    have hquiet : beacons s.member.state = false := by rcases hm with hm | hm | hm <;> rw [hm] <;> rfl
    rw [hexec, beaconNow, hquiet]
    rfl

/-! #### The issue of a plan (R123, R126) -/

theorem newer_iff (a b : BitVec 8) : newer a b = true ↔ 1 ≤ (a - b).toNat ∧ (a - b).toNat ≤ 127 := by
  simp [newer]

theorem changeWanted_iff (c : Image) (s : State) : changeWanted c s = true ↔ desiredSet c s ≠ referenceSet s.plan := by
  simp [changeWanted]

theorem countUp_eq (n : BitVec 16) : countUp n = if n = 0xFFFF#16 then 0xFFFF#16 else n + 1 := by
  unfold countUp
  split_ifs with h
  · exact h
  · rfl

/-- Settles O17. -/
theorem planIssueTakesThePlanPending : Obligations.PlanIssueTakesThePlanPending := by
  intro c s hc hm hholdoff e gap r
  have hdue : issueDue s = true := by simp [issueDue, hholdoff, hm]
  have hepoch : (newPlan c s).epoch = e := rfl
  have hexec : exec .planIssue s = .next (takeIssue c s) := next_configured hc rfl
  have hnewer : newer (newPlan c s).epoch (s.plan.epoch.getD 0) = true ↔ 1 ≤ gap ∧ gap ≤ 127 := newer_iff _ _
  rw [hexec]
  unfold takeIssue
  refine ⟨fun hsame => ?_, fun hdiff hold => ?_, fun hdiff hlo hhi => ?_⟩
  · have hwanted : changeWanted c s = false := by
      rw [← Bool.not_eq_true, changeWanted_iff]
      exact fun h => h hsame
    simp [hdue, hwanted]
  · have hstale : newer (newPlan c s).epoch (s.plan.epoch.getD 0) = false := Bool.eq_false_iff.mpr (mt hnewer.mp hold)
    rw [hdue, (changeWanted_iff c s).mpr hdiff, hstale]
    rfl
  · rw [hdue, (changeWanted_iff c s).mpr hdiff, hnewer.mpr ⟨hlo, hhi⟩]
    have hissued : (issue r s).plan = { s.plan with
        pending := some r, lastIssued := some r, issued := countUp s.plan.issued, repeats := 2, holdoff := none } := rfl
    rw [countUp_eq] at hissued
    exact ⟨issue r s, rfl, rfl, hissued, requestPlan_qPlan _ _, requestPlan_qFault _ _, requestPlan_qLeave _ _,
      requestPlan_qBeacon _ _, requestPlan_rx _ _⟩

/-! #### The join window and the drain window (R93, R99) -/

/-- A change of state from one other than ACTIVE leaves the plan records and the generator. -/
theorem moveTo_of_not_active {s : State} (h : s.member.state ≠ .active) (next : Membership) :
    moveTo next s = { s with member := s.member.enter next, link := s.link.enterState next } := by
  rw [moveTo, if_neg h, if_neg h]

/-- An entry into DETACHED withdraws the BEACON and the PLAN request, and no other (R24). -/
theorem enterState_detached (l : Link) : (l.enterState .detached).qBeacon = none ∧
    (l.enterState .detached).qPlan = none ∧ (l.enterState .detached).qFault = l.qFault ∧
    (l.enterState .detached).qLeave = l.qLeave ∧ (l.enterState .detached).rx = l.rx ∧
    (l.enterState .detached).backoff = l.backoff := by
  rw [enterState_of_ne l (by decide)]
  simp [Link.withdrawFor]

/-- Settles O21. -/
theorem joinAndDrainWindowsEnd : Obligations.JoinAndDrainWindowsEnd := by
  intro c s n hc leaves
  have hleaves : ∀ (i : Instr) (e : Event), s.member.state ≠ .active →
      exec i s = .next (raise e (moveTo .detached s)) → leaves i (eventBit e) := fun i e hm hexec => by
    rw [moveTo_of_not_active hm] at hexec
    obtain ⟨hbeacon, hplan, hfault, hleave, hrx, hbackoff⟩ := enterState_detached s.link
    exact ⟨_, hexec, rfl, rfl, hbeacon, hplan, hfault, hleave, hrx, hbackoff, rfl⟩
  constructor
  · intro hm hwindow hlength
    have hdue : joinDue c s = true := by simp [joinDue, hm, hwindow, windowOver, joinLength, hlength]
    have hexec : exec .joinWindowEnd s = .next (takeJoinEnd c s) := next_configured hc rfl
    refine ⟨fun ⟨r, hr, hown⟩ => ?_, fun hout hfew => ?_, fun hout hlast => ?_⟩
    · rw [hexec]
      simp [takeJoinEnd, hdue, pendingHasOwn, hr, hown]
    all_goals
      have hpending : pendingHasOwn c s = false := by
        unfold pendingHasOwn
        split
        · rfl
        · exact hout _ ‹_›
    · rw [hexec, takeJoinEnd, hdue, hpending, if_pos (show s.member.attempts + 1 < 3 by omega)]
      rfl
    · refine hleaves _ .joinFailed (by rw [hm]; decide) ?_
      rw [hexec, takeJoinEnd, hdue, hpending, if_neg (show ¬s.member.attempts + 1 < 3 by omega)]
      rfl
  · intro hm hwindow hlength
    have hdue : drainDue c s = true := by simp [drainDue, hm, hwindow, windowOver, drainLength, hlength]
    refine hleaves _ .left (by rw [hm]; decide) (next_configured hc ?_)
    exact if_pos hdue
end Sys2Proof.Machine

/-! ### The entry into ACTIVE, founding, and the apply of a plan (R4, R55, R80, R92, R94, R99 to R101, R134, R135, R149) -/

namespace Sys2Proof.Machine

open Sys2Proof.Safety

/-! #### Event flags -/

theorem getLsbD_raise (p : Port) (e : Event) {n : Nat} (hn : n < 16) :
    (p.raise e).flags.getLsbD n = (p.flags.getLsbD n || decide (n = eventNumber e)) := by
  have hbit : (eventBit e).getLsbD n = decide (n = eventNumber e) := by
    simp only [eventBit, BitVec.getLsbD_shiftLeft, BitVec.getLsbD_one]
    by_cases hlt : n < eventNumber e
    · simp [hlt, Nat.ne_of_lt hlt]
    · have hiff : n - eventNumber e = 0 ↔ n = eventNumber e := by omega
      simp [hlt, hn, hiff]
  simp [Port.raise, hbit]

theorem getLsbD_raise_self (p : Port) (e : Event) : (p.raise e).flags.getLsbD (eventNumber e) = true := by
  rw [getLsbD_raise p e (by cases e <;> decide)]
  simp

theorem getLsbD_raise_of_ne (p : Port) {e : Event} {n : Nat} (hn : n < 16) (h : n ≠ eventNumber e) :
    (p.raise e).flags.getLsbD n = p.flags.getLsbD n := by
  rw [getLsbD_raise p e hn, decide_eq_false h, Bool.or_false]

theorem getLsbD_raise_of_set {p : Port} {n : Nat} (h : p.flags.getLsbD n = true) (e : Event) :
    (p.raise e).flags.getLsbD n = true := by
  simp [Port.raise, h]

/-! #### The jump (R149) -/

/-- The generator at the jump, before the phase point that a target of 0 brings (R149). -/
def Gen.jumped (g : Gen) (seq : Seq) : Gen :=
  { g with phi := g.held, dueSeq := seq, hold := false }

theorem jump_of_target_ne_zero {c : Image} {s : State} (h : s.gen.held ≠ 0) :
    jump c s = { s with gen := s.gen.jumped s.timer.seq } := by
  rw [jump, if_neg h]
  rfl

theorem jump_of_target_zero {c : Image} {s : State} (h : s.gen.held = 0) :
    jump c s = reachPhasePoint c { s with gen := s.gen.jumped s.timer.seq } := by
  rw [jump, if_pos h]
  rfl

theorem jump_held {c : Image} {s : State} (h : s.gen.held = 0) (hmust : mustHold c s.gen = true) :
    jump c s = { s with gen := { s.gen.jumped s.timer.seq with hold := true } } := by
  rw [jump_of_target_zero h]
  exact if_pos hmust

theorem jump_taken {c : Image} {s : State} (h : s.gen.held = 0) (hmust : mustHold c s.gen = false) :
    jump c s = takePhasePoint c false { s with gen := s.gen.jumped s.timer.seq } := by
  rw [jump_of_target_zero h]
  exact if_neg (Bool.eq_false_iff.mp hmust)

/-- The OTB minimum of a live cycle has not run (R143). -/
theorem mustHold_of_running {c : Image} {g : Gen} (hkind : g.kind = some .live)
    (hrun : (g.interval = some .otb ∧ g.age < c.otbMin) ∨ (g.interval = some .dtb ∧ g.age < c.dtb) ∨
      (g.interval = some .ota ∧ g.age < g.otaEff) ∨ (g.interval = some .dta ∧ g.age < c.dta)) :
    mustHold c g = true := by
  have hwait : otbWait c g ≠ 0 := by
    rcases hrun with ⟨hi, hage⟩ | ⟨hi, hage⟩ | ⟨hi, hage⟩ | ⟨hi, hage⟩ <;> simp only [otbWait, hi] <;> omega
  simp [mustHold, hkind, hwait]

theorem mustHold_of_run {c : Image} {g : Gen}
    (h : g.kind ≠ some .live ∨ (g.interval = some .otb ∧ c.otbMin ≤ g.age)) : mustHold c g = false := by
  rcases h with hkind | ⟨hi, hage⟩
  · simp [mustHold, hkind]
  · have hwait : otbWait c g = 0 := by
      simp only [otbWait, hi]
      omega
    simp [mustHold, hwait]

/-- A phase position at its target stays, and the next cycle's phase point is due in it (R147). -/
theorem walk_at_target {c : Image} {g : Gen} (hp : 0 < c.p) (hphi : g.phi = 0) (hheld : g.held = 0) :
    g.walk c = { g with dueSeq := g.dueSeq + 1 } := by
  have hmove : walkMove c.p c.walkStep 0 0 = 0 := rfl
  have hadvance : dueAdvance c.p 0 0 = 1 := by
    simp [dueAdvance, hp.ne']
  have hphi' : movedPhi c.p 0 0 = 0 := by simp [movedPhi]
  simp only [Gen.walk, hphi, hheld, hmove, hadvance, hphi']
  rfl

/-- The live cycle that the phase point of an entry begins (R149, R139). -/
theorem genAfter_jumped {c : Image} {g : Gen} (hp : 0 < c.p) (hheld : g.held = 0) (seq : Seq) :
    genAfter c true true (g.jumped seq) = { g.jumped seq with
      dueSeq := seq + 1
      kind := some .live
      interval := some .dta
      age := 0
      unbroken := true
      otaEff := min g.staged.toNat g.ceiling
      markCount := 4 } := by
  rw [genAfter, walk_at_target (g := (g.jumped seq).take) hp hheld hheld]
  simp only [Gen.begin, Gen.mark, Gen.take, Gen.jumped, if_true]

/-- The station at an entry into ACTIVE, before the generator's jump (R86, R4). -/
def entering (c : Image) (s : State) : State :=
  { s with
    member := s.member.enter .active
    timer := if s.timer.counter = 0 then s.timer.limit c .active else s.timer }

theorem enterActive_eq (c : Image) (s : State) : enterActive c s = jump c (entering c s) := rfl

theorem entering_seq (c : Image) (s : State) : (entering c s).timer.seq = s.timer.seq := by
  unfold entering
  split_ifs <;> rfl

/-- A phase point without an escalation changes the generator, the monitor and the port alone; no latch is taken, and no
event is raised but CUT and DEMAND_CLIPPED (R139, R161). -/
theorem takePhasePoint_calm_frame {c : Image} {wasHeld : Bool} {s : State} (h : ¬Escalating c s) :
    takePhasePoint c wasHeld s = { s with
        gen := (takePhasePoint c wasHeld s).gen
        mon := (takePhasePoint c wasHeld s).mon
        port := (takePhasePoint c wasHeld s).port } ∧
      (takePhasePoint c wasHeld s).mon.latch = s.mon.latch ∧
      ∀ n, n < 8 → (takePhasePoint c wasHeld s).port.flags.getLsbD n = s.port.flags.getLsbD n := by
  have hother : ∀ (q : Port) (e : Event), 8 ≤ eventNumber e → ∀ n, n < 8 →
      (q.raise e).flags.getLsbD n = q.flags.getLsbD n := fun q e he n hn =>
    getLsbD_raise_of_ne q (by omega) (by omega)
  rw [takePhasePoint_calm (.inr h), endForces_frame]
  refine ⟨rfl, by simp only [endForces_mon], fun n hn => ?_⟩
  simp only [endForces_port]
  split_ifs <;> simp [hother _ .cut (by decide) n hn, hother _ .demandClipped (by decide) n hn]

/-- So does the jump (R149). -/
theorem jump_calm {c : Image} {s : State} (h : ¬Escalating c s) :
    jump c s = { s with gen := (jump c s).gen, mon := (jump c s).mon, port := (jump c s).port } ∧
      (jump c s).mon.latch = s.mon.latch ∧
      ∀ n, n < 8 → (jump c s).port.flags.getLsbD n = s.port.flags.getLsbD n := by
  by_cases hheld : s.gen.held = 0
  · rw [jump_of_target_zero hheld, reachPhasePoint]
    split_ifs
    · exact ⟨rfl, rfl, fun n _ => rfl⟩
    · obtain ⟨hframe, hlatch, hflags⟩ :=
        takePhasePoint_calm_frame (c := c) (wasHeld := false) (s := { s with gen := s.gen.jumped s.timer.seq }) h
      exact ⟨by rw [hframe], hlatch, hflags⟩
  · rw [jump_of_target_ne_zero hheld]
    exact ⟨rfl, rfl, fun n _ => rfl⟩

/-- What an entry into ACTIVE without an escalation changes. -/
theorem enterActive_calm {c : Image} {s : State} (h : ¬Escalating c s) :
    enterActive c s = { entering c s with
        gen := (enterActive c s).gen, mon := (enterActive c s).mon, port := (enterActive c s).port } ∧
      (enterActive c s).mon.latch = s.mon.latch ∧
      ∀ n, n < 8 → (enterActive c s).port.flags.getLsbD n = s.port.flags.getLsbD n :=
  jump_calm (s := entering c s) h

theorem enterActive_gen_of_target_ne_zero {c : Image} {s : State} (h : s.gen.held ≠ 0) :
    (enterActive c s).gen = s.gen.jumped s.timer.seq := by
  rw [enterActive_eq, jump_of_target_ne_zero (s := entering c s) h, ← entering_seq c s]
  rfl

theorem enterActive_gen_held {c : Image} {s : State} (h : s.gen.held = 0) (hmust : mustHold c s.gen = true) :
    (enterActive c s).gen = { s.gen.jumped s.timer.seq with hold := true } := by
  rw [enterActive_eq, jump_held (s := entering c s) h hmust, ← entering_seq c s]
  rfl

theorem enterActive_gen_taken {c : Image} {s : State} (h : s.gen.held = 0) (hmust : mustHold c s.gen = false)
    (hp : 0 < c.p) (hcalm : ¬Escalating c s) :
    (enterActive c s).gen = { s.gen.jumped s.timer.seq with
      dueSeq := s.timer.seq + 1
      kind := some .live
      interval := some .dta
      age := 0
      unbroken := true
      otaEff := min s.gen.staged.toNat s.gen.ceiling
      markCount := 4 } := by
  rw [← genAfter_jumped hp h, enterActive_eq, jump_taken (s := entering c s) h hmust,
    takePhasePoint_calm (.inr ?_), endForces_gen, ← entering_seq c s]
  · rfl
  · exact hcalm

/-- The correction of the cycle that an entry at a boundary begins (R4, R86). -/
theorem entering_timer_at_boundary {c : Image} {s : State} (h : s.timer.counter = 0) :
    (entering c s).timer = { s.timer with
      corr := max (-(c.corrMax : Int)) (min c.corrMax s.timer.corr)
      length := ((c.p : Int) + max (-(c.corrMax : Int)) (min c.corrMax s.timer.corr) + s.timer.trimTick).toNat } := by
  rw [← clamp_eq_max_min (by omega)]
  exact if_pos h

theorem entering_timer_inside {c : Image} {s : State} (h : s.timer.counter ≠ 0) : (entering c s).timer = s.timer :=
  if_neg h

/-! #### Founding (R92) -/

/-- The station at its founding, before the entry into ACTIVE (R92, R80). -/
def founding (c : Image) (s : State) : State :=
  raise .lockGained { s with
    plan := s.plan.found c.station, gen := { s.gen with held := 0 }, align := s.align.found }

theorem found_eq (c : Image) (s : State) : found c s = raise .joined (enterActive c (founding c s)) := rfl

/-- Settles O20. -/
theorem listenWindowEndFounds : Obligations.ListenWindowEndFounds := by
  intro c s n hc hm hwindow hlength hfree hcounter hp hcalm corr jumped
  have hdue : listenDue c s = true := by simp [listenDue, hm, hwindow, windowOver, listenLength, hlength, hfree]
  have hexec : exec .listenWindowEnd s = .next (found c s) := next_configured hc (if_pos hdue)
  obtain ⟨hframe, hlatch, hflags⟩ := enterActive_calm (s := founding c s) hcalm
  have htimer := entering_timer_at_boundary (c := c) (s := founding c s) hcounter
  have hgen : (found c s).gen = (enterActive c (founding c s)).gen := rfl
  refine ⟨found c s, hexec, ?_⟩
  refine ⟨?_, ?_, ?_, ?_, ?_, fun hkind hrun => ?_, fun hrun => ?_, getLsbD_raise_self _ .joined, ?_, hlatch, ?_⟩
  · rw [found_eq, hframe]
    rfl
  · rw [found_eq, hframe]
    rfl
  · rw [found_eq, hframe]
    exact getElem_tableReset
  · rw [found_eq, hframe]
    rfl
  · rw [found_eq, hframe]
    exact htimer
  · rw [hgen, enterActive_gen_held (s := founding c s) rfl (mustHold_of_running hkind hrun)]
    rfl
  · rw [hgen, enterActive_gen_taken (s := founding c s) rfl (mustHold_of_run hrun) hp hcalm]
    rfl
  · refine getLsbD_raise_of_set ?_ .joined
    exact (hflags 6 (by decide)).trans (getLsbD_raise_self s.port .lockGained)
  · rw [found_eq, hframe]
    exact ⟨rfl, rfl, rfl, rfl, rfl⟩

/-! #### The apply (R134, R135, R55) -/

/-- The station at an apply, before the membership step: the silences and the roster, the plan records, the phase target
(steps 1 to 3 of R134). -/
def applying (c : Image) (r : PlanRecord) (s : State) : State :=
  applyRoster c r.members (handTarget { takeSilences c s with plan := s.plan.apply c r })

theorem applyPlan_eq (c : Image) (r : PlanRecord) (s : State) : applyPlan c r s = raise .planApplied
    (soleMemberLock c r (applyMembership c (inSet r.members c.station) (applying c r s))) := rfl

/-- An apply changes the roster, the plan records and the held target before its membership step. -/
theorem applying_frame (c : Image) (r : PlanRecord) (s : State) : applying c r s = { s with
    roster := (applying c r s).roster
    plan := s.plan.apply c r
    gen := (applying c r s).gen } := by
  unfold applying handTarget
  dsimp only
  split <;> rfl

/-- The phase target that an apply hands over (R135, R148). -/
theorem applying_gen (c : Image) (r : PlanRecord) (s : State) : (applying c r s).gen = { s.gen with
    held := if inSet r.members c.station then rankOf r.members c.station * c.p / sizeOf r.members else s.gen.held } := by
  cases hown : inSet r.members c.station <;> simp [applying, handTarget, PlanCtl.apply, placeIn, hown]

/-- The entry of a peer at an apply: aged where its silence limit is due, then taken against the new set (R55, R56). -/
theorem applying_entry (c : Image) (r : PlanRecord) (s : State) (j : Station) : (applying c r s).roster[j] =
    if j = c.station then s.roster[j]
    else ((s.roster[j]).testSilence c (inCurrent s j)).onApply (inSet r.members j) := by
  have hroster : (applying c r s).roster = mapPeers c.station (fun j e => e.onApply (inSet r.members j))
      (mapPeers c.station (fun j e => e.testSilence c (inCurrent s j)) s.roster) := by
    unfold applying handTarget
    dsimp only
    split <;> rfl
  simp only [hroster]
  refine (getElem_mapPeers _ _ _ _).trans ?_
  split_ifs with hj
  · exact (getElem_mapPeers _ _ _ _).trans (if_pos hj)
  · exact congrArg (fun e : Entry => e.onApply _) ((getElem_mapPeers _ _ _ _).trans (if_neg hj))

/-- The membership step and what follows it leave the roster (R134). -/
theorem applyMembership_roster (c : Image) (own : Bool) (s : State) : (applyMembership c own s).roster = s.roster := by
  have henter : (enterActive c s).roster = s.roster := by
    rw [enterActive_eq, jump]
    split_ifs
    · rw [reachPhasePoint]
      split_ifs
      · rfl
      · unfold takePhasePoint beginCycle notice enterCycle
        dsimp only
        split_ifs <;> simp [takeDemand_eq, entering]
    · rfl
  unfold applyMembership
  split
  · exact henter
  all_goals rfl

theorem soleMemberLock_frame (c : Image) (r : PlanRecord) (s : State) : soleMemberLock c r s = { s with
    align := (soleMemberLock c r s).align, port := (soleMemberLock c r s).port } := by
  unfold soleMemberLock
  split_ifs <;> rfl

theorem takeApply_of_due {c : Image} {r : PlanRecord} {s : State} (hr : s.plan.pending = some r)
    (hdue : r.effSeq = s.timer.seq) : takeApply c s = planRest c (applyPlan c r s) := by
  simp [takeApply, hr, hdue]

/-- Settles O19. -/
theorem planApplyChangesTheRoster : Obligations.PlanApplyChangesTheRoster := by
  intro c s r j hc hr hdue before due aged
  have hexec : exec .planApply s = .next (planRest c (applyPlan c r s)) :=
    next_configured hc (takeApply_of_due hr hdue)
  have hroster : (planRest c (applyPlan c r s)).roster = (applying c r s).roster := by
    rw [planRest_frame, applyPlan_eq, soleMemberLock_frame]
    exact applyMembership_roster _ _ _
  have hentry : (planRest c (applyPlan c r s)).roster[j] = if j = c.station then before
      else ((s.roster[j]).testSilence c (inCurrent s j)).onApply (inSet r.members j) := by
    simp only [hroster]
    exact applying_entry c r s j
  have haged : (s.roster[j]).testSilence c (inCurrent s j) = aged :=
    testSilence_eq _ _ _
  refine ⟨_, hexec, fun hj => ?_, fun hj hin hp => ?_, fun hj hout hp => ?_, fun hj hout hp => ?_,
    fun hj hout hp => ?_, fun hj hp => ?_⟩
  all_goals rw [hentry]
  · rw [if_pos hj]
  all_goals rw [if_neg hj, haged, Entry.onApply]
  · rw [hin]
    cases hpres : aged.presence <;> simp_all
  · rw [hp, hout]
    rfl
  · rcases hp with hp | hp <;> rw [hp, hout] <;> rfl
  · rcases hp with hp | hp <;> rw [hp, hout] <;> rfl
  · rw [hp]

end Sys2Proof.Machine

/-! ### What an apply does to every block but the roster (R134) -/

namespace Sys2Proof.Machine

open Sys2Proof.Safety

theorem endRepeats_eq (p : PlanCtl) : p.endRepeats = { p with repeats := p.endRepeats.repeats } := by
  unfold PlanCtl.endRepeats
  split_ifs <;> rfl

/-- The work of the repeats changes no record but their count (R127). -/
theorem repeatIssued_plan (s : State) : (repeatIssued s).plan = { s.plan with
    repeats := (repeatIssued s).plan.repeats } := by
  unfold repeatIssued
  split
  · exact endRepeats_eq s.plan
  · split_ifs
    · rfl
    · exact endRepeats_eq s.plan

/-- The rest of the Plan Controller's work on its records: the relay flag clears, and nothing else changes but the holdoff
and the repeats (R125). -/
theorem planRest_plan (c : Image) (s : State) : (planRest c s).plan = { s.plan with
    relay := false, holdoff := (planRest c s).plan.holdoff, repeats := (planRest c s).plan.repeats } := by
  unfold planRest evaluate
  split_ifs <;> (rw [repeatIssued_plan]; rfl)

/-- A repeat fills the PLAN slot alone (R127). -/
theorem planRest_link (c : Image) (s : State) : (planRest c s).link.qFault = s.link.qFault ∧
    (planRest c s).link.qLeave = s.link.qLeave ∧ (planRest c s).link.rx = s.link.rx := by
  unfold planRest
  rw [evaluate_frame]
  change (repeatIssued (clearRelay s)).link.qFault = _ ∧ (repeatIssued (clearRelay s)).link.qLeave = _ ∧
    (repeatIssued (clearRelay s)).link.rx = _
  unfold repeatIssued
  split
  · exact ⟨rfl, rfl, rfl⟩
  · split_ifs
    · exact ⟨requestPlan_qFault _ _, requestPlan_qLeave _ _, requestPlan_rx _ _⟩
    · exact ⟨rfl, rfl, rfl⟩

/-! #### The membership step (R94, R99 to R101) -/

/-- A change into DETACHED keeps what is not of the state left, but for the holdoff and the repeats (R119). -/
theorem moveTo_plan_eq (next : Membership) (s : State) : (moveTo next s).plan = { s.plan with
    holdoff := (moveTo next s).plan.holdoff, repeats := (moveTo next s).plan.repeats } := by
  rw [moveTo_plan]
  split_ifs <;> rfl

/-- What a membership step without an escalation leaves: every block but the membership, the timer, the generator, the
monitor's counts and the events 0 to 2, 8 and 9, and of the plan records and the queue what leaving ACTIVE does not
stop (R134). -/
structure StepKeeps (s t : State) : Prop where
  align : t.align = s.align
  latch : t.mon.latch = s.mon.latch
  loader : t.loader = s.loader
  line : t.line = s.line
  pending : t.pending = s.pending
  plan : t.plan = { s.plan with holdoff := t.plan.holdoff, repeats := t.plan.repeats }
  qFault : t.link.qFault = s.link.qFault
  qLeave : t.link.qLeave = s.link.qLeave
  rx : t.link.rx = s.link.rx
  held : t.gen.held = s.gen.held
  flags : ∀ n, 3 ≤ n → n < 8 → t.port.flags.getLsbD n = s.port.flags.getLsbD n

theorem StepKeeps.refl (s : State) : StepKeeps s s :=
  ⟨rfl, rfl, rfl, rfl, rfl, rfl, rfl, rfl, rfl, rfl, fun _ _ _ => rfl⟩

theorem StepKeeps.raise {s t : State} (h : StepKeeps s t) {e : Event} (he : eventNumber e < 3) :
    StepKeeps s (Machine.raise e t) where
  align := h.align
  latch := h.latch
  loader := h.loader
  line := h.line
  pending := h.pending
  plan := h.plan
  qFault := h.qFault
  qLeave := h.qLeave
  rx := h.rx
  held := h.held
  flags n hlo hhi := by
    rw [raise_port, getLsbD_raise_of_ne t.port (by omega) (by omega)]
    exact h.flags n hlo hhi

theorem stepKeeps_moveTo_detached (s : State) : StepKeeps s (moveTo .detached s) := by
  obtain ⟨-, -, hfault, hleave, hrx, -⟩ := enterState_detached s.link
  have hheld : (moveTo .detached s).gen.held = s.gen.held := by
    rw [moveTo_gen]
    split_ifs <;> rfl
  exact ⟨rfl, rfl, rfl, rfl, rfl, moveTo_plan_eq _ s, hfault, hleave, hrx, hheld, fun _ _ _ => rfl⟩

theorem genAfter_held (c : Image) (active live : Bool) (g : Gen) : (genAfter c active live g).held = g.held := by
  cases active <;> rfl

/-- A phase point keeps the target that the walk goes to (R148). -/
theorem jump_keeps_held {c : Image} {s : State} (h : ¬Escalating c s) : (jump c s).gen.held = s.gen.held := by
  by_cases hheld : s.gen.held = 0
  · cases hmust : mustHold c s.gen
    · rw [jump_taken hheld hmust, takePhasePoint_calm (.inr (by exact h)), endForces_gen]
      exact (genAfter_held _ _ _ _).trans rfl
    · rw [jump_held hheld hmust]
      rfl
  · rw [jump_of_target_ne_zero hheld]
    rfl

theorem stepKeeps_enterActive {c : Image} {s : State} (h : ¬Escalating c s) : StepKeeps s (enterActive c s) := by
  obtain ⟨hframe, hlatch, hflags⟩ := enterActive_calm h
  exact ⟨by rw [hframe]; rfl, hlatch, by rw [hframe]; rfl, by rw [hframe]; rfl, by rw [hframe]; rfl,
    by rw [hframe]; rfl, by rw [hframe]; rfl, by rw [hframe]; rfl, by rw [hframe]; rfl,
    jump_keeps_held (s := entering c s) h, fun n _ hn => hflags n hn⟩

theorem stepKeeps_applyMembership {c : Image} {s : State} (h : ¬Escalating c s) (own : Bool) :
    StepKeeps s (applyMembership c own s) := by
  unfold applyMembership
  split
  · exact (stepKeeps_enterActive h).raise (e := .joined) (by decide)
  · exact (stepKeeps_moveTo_detached s).raise (e := .removed) (by decide)
  · exact (stepKeeps_moveTo_detached s).raise (e := .left) (by decide)
  all_goals exact .refl s

theorem applyMembership_enters (c : Image) {s : State} (h : s.member.state = .joining) :
    applyMembership c true s = raise .joined (enterActive c s) := by
  simp only [applyMembership, h]

theorem applyMembership_removed (c : Image) {s : State} (h : s.member.state = .active) :
    applyMembership c false s = raise .removed (moveTo .detached s) := by
  simp only [applyMembership, h]

theorem applyMembership_left (c : Image) {s : State} (h : s.member.state = .draining) :
    applyMembership c false s = raise .left (moveTo .detached s) := by
  simp only [applyMembership, h]

/-- The states that an apply leaves (R94, R99 to R101). -/
theorem applyMembership_stays (c : Image) {s : State} {own : Bool} (hjoin : ¬(s.member.state = .joining ∧ own = true))
    (hactive : ¬(s.member.state = .active ∧ own = false)) (hdrain : ¬(s.member.state = .draining ∧ own = false)) :
    applyMembership c own s = s := by
  cases hm : s.member.state <;> cases own <;> simp_all [applyMembership]

/-! #### A sole member (R80) -/

theorem stationSet_ext {a b : StationSet} (h : ∀ j : Station, inSet a j = inSet b j) : a = b :=
  BitVec.eq_of_getLsbD_eq fun i hi => h ⟨i, hi⟩

theorem inSet_only_iff (i j : Station) : inSet (only j) i = decide (i = j) := by
  revert i j
  decide

theorem eq_only_iff (m : StationSet) (j : Station) : m = only j ↔ ∀ i : Station, inSet m i = true ↔ i = j := by
  constructor
  · rintro rfl i
    rw [inSet_only_iff, decide_eq_true_iff]
  · intro h
    refine stationSet_ext fun i => ?_
    rw [inSet_only_iff, Bool.eq_iff_iff, h i, decide_eq_true_iff]

/-- The rank counts the members below the station (R115). -/
theorem rankOf_eq (m : StationSet) (j : Station) :
    rankOf m j = (stations.filter fun i => m.getLsbD i.val && decide (i < j)).length := by
  rw [rankOf, membersOf, List.filter_filter]
  simp only [inSet, Bool.and_comm]

/-! #### The apply as a whole -/

@[simp] theorem applying_timer (c : Image) (r : PlanRecord) (s : State) : (applying c r s).timer = s.timer := by
  rw [applying_frame]

@[simp] theorem applying_link (c : Image) (r : PlanRecord) (s : State) : (applying c r s).link = s.link := by
  rw [applying_frame]

@[simp] theorem applying_align (c : Image) (r : PlanRecord) (s : State) : (applying c r s).align = s.align := by
  rw [applying_frame]

@[simp] theorem applying_member (c : Image) (r : PlanRecord) (s : State) : (applying c r s).member = s.member := by
  rw [applying_frame]

@[simp] theorem applying_plan (c : Image) (r : PlanRecord) (s : State) :
    (applying c r s).plan = s.plan.apply c r := by
  rw [applying_frame]

@[simp] theorem applying_mon (c : Image) (r : PlanRecord) (s : State) : (applying c r s).mon = s.mon := by
  rw [applying_frame]

@[simp] theorem applying_loader (c : Image) (r : PlanRecord) (s : State) : (applying c r s).loader = s.loader := by
  rw [applying_frame]

@[simp] theorem applying_port (c : Image) (r : PlanRecord) (s : State) : (applying c r s).port = s.port := by
  rw [applying_frame]

@[simp] theorem applying_line (c : Image) (r : PlanRecord) (s : State) : (applying c r s).line = s.line := by
  rw [applying_frame]

@[simp] theorem applying_pending (c : Image) (r : PlanRecord) (s : State) : (applying c r s).pending = s.pending := by
  rw [applying_frame]

/-- What follows the membership step of an apply: the sole member's lock, the event and the Plan Controller's rest. -/
theorem afterStep_frame (c : Image) (r : PlanRecord) (u : State) :
    planRest c (raise .planApplied (soleMemberLock c r u)) = { u with
      align := (soleMemberLock c r u).align
      port := (soleMemberLock c r u).port.raise .planApplied
      link := (planRest c (raise .planApplied (soleMemberLock c r u))).link
      plan := (planRest c (raise .planApplied (soleMemberLock c r u))).plan } := by
  rw [planRest_frame, soleMemberLock_frame]
  rfl

theorem soleMemberLock_locks {c : Image} {r : PlanRecord} {u : State} (hsole : r.members = only c.station)
    (hpulling : u.align.state = .pulling) : soleMemberLock c r u =
      raise .lockGained { u with align := { u.align with state := .locked, lockStreak := 0 } } :=
  if_pos ⟨hsole, hpulling⟩

theorem soleMemberLock_passes {c : Image} {r : PlanRecord} {u : State}
    (h : ¬(r.members = only c.station ∧ u.align.state = .pulling)) : soleMemberLock c r u = u :=
  if_neg h

/-- The events of an apply are raised over those of its membership step. -/
theorem afterStep_flags {c : Image} {r : PlanRecord} {u : State} {n : Nat} (h : u.port.flags.getLsbD n = true) :
    ((soleMemberLock c r u).port.raise .planApplied).flags.getLsbD n = true := by
  refine getLsbD_raise_of_set ?_ .planApplied
  unfold soleMemberLock
  split_ifs
  · exact getLsbD_raise_of_set h .lockGained
  · exact h

/-- The records of an apply (R134, R119). -/
theorem afterStep_plan {c : Image} {r : PlanRecord} {s u : State} (h : StepKeeps (applying c r s) u) :
    (planRest c (raise .planApplied (soleMemberLock c r u))).plan.epoch = some r.epoch ∧
      (planRest c (raise .planApplied (soleMemberLock c r u))).plan.set = some r.members ∧
      (planRest c (raise .planApplied (soleMemberLock c r u))).plan.pending = none ∧
      (planRest c (raise .planApplied (soleMemberLock c r u))).plan.relay = false ∧
      (planRest c (raise .planApplied (soleMemberLock c r u))).plan.place = placeIn c.p r.members c.station := by
  have hsole : (raise .planApplied (soleMemberLock c r u)).plan = u.plan := by
    rw [soleMemberLock_frame]
    rfl
  rw [planRest_plan, hsole, h.plan, applying_plan]
  exact ⟨rfl, rfl, rfl, rfl, rfl⟩

/-- The queue of an apply, but for the slots that a repeat or a change of state touches. -/
theorem afterStep_link {c : Image} {r : PlanRecord} {s u : State} (h : StepKeeps (applying c r s) u) :
    (planRest c (raise .planApplied (soleMemberLock c r u))).link.qFault = s.link.qFault ∧
      (planRest c (raise .planApplied (soleMemberLock c r u))).link.qLeave = s.link.qLeave ∧
      (planRest c (raise .planApplied (soleMemberLock c r u))).link.rx = s.link.rx := by
  obtain ⟨hfault, hleave, hrx⟩ := planRest_link c (raise .planApplied (soleMemberLock c r u))
  have hsole : (raise .planApplied (soleMemberLock c r u)).link = u.link := by
    rw [soleMemberLock_frame]
    rfl
  rw [hfault, hleave, hrx, hsole, h.qFault, h.qLeave, h.rx, applying_link]
  exact ⟨rfl, rfl, rfl⟩

/-- Settles O18. -/
theorem planApplyBringsThePlanIntoForce : Obligations.PlanApplyBringsThePlanIntoForce := by
  intro c s r hc hr hdue hcalm own size rank target enters leaves sole handed jumped corr
  obtain ⟨u, hu⟩ : ∃ u, u = applyMembership c own (applying c r s) := ⟨_, rfl⟩
  obtain ⟨t, ht⟩ : ∃ t, t = planRest c (raise .planApplied (soleMemberLock c r u)) := ⟨_, rfl⟩
  have hexec : exec .planApply s = .next t :=
    next_configured hc ((takeApply_of_due hr hdue).trans (by rw [ht, hu]; rfl))
  have hcalm' : ¬Escalating c (applying c r s) := by simpa only [Escalating, applying_mon] using hcalm
  have hkeeps : StepKeeps (applying c r s) u := hu ▸ stepKeeps_applyMembership hcalm' own
  have hgen : (applying c r s).gen = handed := by
    rw [applying_gen, rankOf_eq]
    rfl
  obtain ⟨hepoch, hset, hpending, hrelay, hplace⟩ := afterStep_plan hkeeps
  obtain ⟨hfault, hleave, hrx⟩ := afterStep_link hkeeps
  rw [← ht] at hepoch hset hpending hrelay hplace hfault hleave hrx
  have hframe := afterStep_frame c r u
  rw [← ht] at hframe
  have hplaceIn : placeIn c.p r.members c.station = if own = true then some ⟨rank, size, target⟩ else none := by
    rw [placeIn, rankOf_eq]
    rfl
  have hflag : ∀ n, u.port.flags.getLsbD n = true → t.port.flags.getLsbD n = true := fun n hn => by
    rw [hframe]
    exact afterStep_flags hn
  have henters : enters → u = raise .joined (enterActive c (applying c r s)) := fun ⟨hm, hown⟩ => by
    rw [hu, hown]
    exact applyMembership_enters c (by rw [applying_member, hm])
  have hremoved : leaves → u = raise .removed (moveTo .detached (applying c r s)) := fun ⟨hm, hown⟩ => by
    rw [hu, hown]
    exact applyMembership_removed c (by rw [applying_member, hm])
  have hleft : s.member.state = .draining → own = false → u = raise .left (moveTo .detached (applying c r s)) :=
    fun hm hown => by
      rw [hu, hown]
      exact applyMembership_left c (by rw [applying_member, hm])
  have hstays : ¬enters → ¬leaves → ¬(s.member.state = .draining ∧ own = false) → u = applying c r s :=
    fun hjoin hactive hdrain => by
      rw [hu]
      exact applyMembership_stays c (by rwa [applying_member]) (by rwa [applying_member]) (by rwa [applying_member])
  have hmember : t.member = u.member := by rw [hframe]
  have htimer : t.timer = u.timer := by rw [hframe]
  have hgenT : t.gen = u.gen := by rw [hframe]
  have hsame : ¬enters → ¬leaves → ¬(s.member.state = .draining ∧ own = false) → t.member = s.member :=
    fun hjoin hactive hdrain => by
      rw [hmember, hstays hjoin hactive hdrain, applying_member]
  have hentry := (enterActive_calm hcalm').1
  have hgenIn : own = true → (applying c r s).gen = { s.gen with held := target } := fun hown => by
    rw [hgen]
    simp only [handed, hown, if_true]
  have hgenActive : enters → t.gen = (enterActive c (applying c r s)).gen := fun hin => by
    rw [hgenT, henters hin, raise_gen]
  have htimerIn : enters → t.timer = (entering c (applying c r s)).timer := fun hin => by
    rw [htimer, henters hin, raise_timer, hentry]
  have halign : u.align = s.align := by rw [hkeeps.align, applying_align]
  have hflag6 : u.port.flags.getLsbD 6 = s.port.flags.getLsbD 6 := by
    rw [hkeeps.flags 6 (by decide) (by decide), applying_port]
  refine ⟨t, hexec, hepoch, hset, hpending, hrelay, fun hown => ?_, fun hown => ?_, ?_, ?_, fun hin => ⟨?_, ?_⟩,
    fun hout => ⟨?_, ?_⟩, fun hm hown => ⟨?_, ?_⟩, fun hm hown => ?_, fun hm hown => ?_, fun hm hown => ?_, fun hm => ?_,
    fun hnot => ?_, fun hin hz => ?_, fun hin hz => ?_, fun hin htarget => ?_, fun hin htarget hkind hrun => ?_,
    fun hin htarget hp hrun => ?_, fun hsole hpulling => ?_, fun hnot => ?_, hfault, hleave, hrx, ?_, ?_, ?_, ?_⟩
  · rw [hplace, hplaceIn, if_pos hown]
  · rw [hplace, hplaceIn, if_neg (Bool.eq_false_iff.mp hown)]
  · rw [hgenT, hkeeps.held, hgen]
  · rw [hframe]
    exact getLsbD_raise_self _ .planApplied
  · rw [hmember, henters hin, raise_member, hentry, ← applying_member c r s]
    rfl
  · exact hflag 0 (henters hin ▸ getLsbD_raise_self _ .joined)
  · rw [hmember, hremoved hout, ← applying_member c r s]
    rfl
  · exact hflag 1 (hremoved hout ▸ getLsbD_raise_self _ .removed)
  · rw [hmember, hleft hm hown, ← applying_member c r s]
    rfl
  · exact hflag 2 (hleft hm hown ▸ getLsbD_raise_self _ .left)
  · exact hsame (by simp [enters, hm]) (by simp [leaves, hown]) (by simp [hm])
  · exact hsame (by simp [enters, hm]) (by simp [leaves, hown]) (by simp [hown])
  · exact hsame (by simp [enters, hown]) (by simp [leaves, hm]) (by simp [hm])
  · rcases hm with hm | hm <;> exact hsame (by simp [enters, hm]) (by simp [leaves, hm]) (by simp [hm])
  · rw [htimer, hgenT]
    by_cases hl : leaves
    · rw [if_pos hl, hremoved hl, raise_timer, raise_gen, moveTo_timer, moveTo_gen, applying_timer, applying_member,
        if_pos hl.1, hgen]
      exact ⟨rfl, rfl⟩
    · rw [if_neg hl]
      by_cases hd : s.member.state = .draining ∧ own = false
      · rw [hleft hd.1 hd.2, raise_timer, raise_gen, moveTo_timer, moveTo_gen, applying_timer, applying_member,
          if_neg (by rw [hd.1]; decide), hgen]
        exact ⟨rfl, rfl⟩
      · rw [hstays hnot hl hd, applying_timer, hgen]
        exact ⟨rfl, rfl⟩
  · rw [htimerIn hin, entering_timer_at_boundary (by rwa [applying_timer]), applying_timer]
  · rw [htimerIn hin, entering_timer_inside (by rwa [applying_timer]), applying_timer]
  · rw [hgenActive hin, enterActive_gen_of_target_ne_zero (by rwa [hgenIn hin.2]), hgenIn hin.2, applying_timer]
    rfl
  · rw [hgenActive hin, enterActive_gen_held (by rwa [hgenIn hin.2])
      (by rw [hgenIn hin.2]; exact mustHold_of_running hkind hrun), hgenIn hin.2, applying_timer]
    rfl
  · rw [hgenActive hin, enterActive_gen_taken (by rwa [hgenIn hin.2])
      (by rw [hgenIn hin.2]; exact mustHold_of_run hrun) hp hcalm', hgenIn hin.2, applying_timer]
    rfl
  · rw [hframe, soleMemberLock_locks ((eq_only_iff _ _).mpr hsole) (by rwa [halign]), ← halign]
    exact ⟨rfl, getLsbD_raise_of_set (getLsbD_raise_self _ .lockGained) .planApplied⟩
  · rw [hframe, soleMemberLock_passes (by rw [halign, eq_only_iff]; exact hnot)]
    refine ⟨halign, ?_⟩
    dsimp only
    rw [getLsbD_raise _ _ (by decide), hflag6]
    simp [eventNumber]
  · rw [hframe]
    exact hkeeps.latch.trans (by rw [applying_mon])
  · rw [hframe]
    exact hkeeps.loader.trans (by rw [applying_loader])
  · rw [hframe]
    exact hkeeps.line.trans (by rw [applying_line])
  · rw [hframe]
    exact hkeeps.pending.trans (by rw [applying_pending])

end Sys2Proof.Machine

/-! ### The desired set and the holdoff (R120 to R123, R127) -/

namespace Sys2Proof.Machine

open Sys2Proof.Safety

/-! #### Member sets one station at a time -/

theorem inSet_insertIn (m : StationSet) (i j : Station) : inSet (insertIn m j) i = (inSet m i || decide (i = j)) := by
  rw [← inSet_only_iff]
  exact BitVec.getLsbD_or

theorem inSet_removeFrom (m : StationSet) (i j : Station) : inSet (removeFrom m j) i = (inSet m i && !decide (i = j)) := by
  rw [← inSet_only_iff]
  simp [inSet, removeFrom]

theorem eq_zero_iff_inSet (m : StationSet) : m = 0 ↔ ∀ i : Station, inSet m i = false := by
  constructor
  · rintro rfl i
    simp [inSet]
  · intro h
    refine stationSet_ext fun i => ?_
    rw [h i]
    simp [inSet]

/-- One more place that holds, in a list without repetition. -/
theorem length_filter_or_eq {l : List Station} (hl : l.Nodup) {x : Station} (hx : x ∈ l) {p : Station → Bool}
    (hp : p x = false) : (l.filter fun i => p i || decide (i = x)).length = (l.filter p).length + 1 := by
  induction l with
  | nil => simp at hx
  | cons y ys ih =>
    obtain ⟨hy, hys⟩ := List.nodup_cons.mp hl
    by_cases hxy : x = y
    · subst hxy
      have hrest : ys.filter (fun i => p i || decide (i = x)) = ys.filter p := List.filter_congr fun i hi => by
        have hne : i ≠ x := fun h => hy (h ▸ hi)
        simp [hne]
      simp [hp, hrest]
    · have hmem : x ∈ ys := (List.mem_cons.mp hx).resolve_left hxy
      have hne : y ≠ x := Ne.symm hxy
      cases hpy : p y <;> simp [hpy, hne, ih hys hmem]

theorem mem_allStations (j : Station) : j ∈ stations := by
  revert j
  decide

theorem nodup_stations : stations.Nodup := by decide

theorem sizeOf_insertIn {m : StationSet} {x : Station} (h : inSet m x = false) : sizeOf (insertIn m x) = sizeOf m + 1 := by
  have hfilter : stations.filter (inSet (insertIn m x)) = stations.filter fun i => inSet m i || decide (i = x) :=
    List.filter_congr fun i _ => inSet_insertIn m i x
  rw [sizeOf, membersOf, hfilter, length_filter_or_eq nodup_stations (mem_allStations x) h]
  rfl

/-! #### Removals and additions (R121, R122) -/

/-- Taking out, in any order, the stations of a list that a test names. -/
theorem inSet_foldl_removeFrom (p : Station → Bool) (l : List Station) (m : StationSet) (i : Station) :
    inSet (l.foldl (fun m j => if p j then removeFrom m j else m) m) i = (inSet m i && !(decide (i ∈ l) && p i)) := by
  induction l generalizing m with
  | nil => simp
  | cons x xs ih =>
    rw [List.foldl_cons, ih]
    by_cases hpx : p x = true
    · rw [if_pos hpx, inSet_removeFrom]
      by_cases hi : i = x
      · simp [hi, hpx]
      · simp [hi]
    · rw [if_neg hpx]
      by_cases hi : i = x
      · simp [hi, hpx]
      · simp [hi]

/-- Adding the stations that a test names, in the order of the list, while the set holds fewer than a limit: one is added
exactly when the set and the named ones before it number less than the limit. -/
theorem inSet_foldl_insertIn (q : Station → Bool) (limit : Nat) (l : List Station) (hl : l.Nodup) (m : StationSet)
    (hq : ∀ j ∈ l, q j = true → inSet m j = false) (i : Station) :
    inSet (l.foldl (fun m j => if q j && sizeOf m < limit then insertIn m j else m) m) i =
      (inSet m i || (decide (i ∈ l) && q i &&
        decide (sizeOf m + ((l.takeWhile (· ≠ i)).filter q).length < limit))) := by
  induction l generalizing m with
  | nil => simp
  | cons x xs ih =>
    obtain ⟨hx, hxs⟩ := List.nodup_cons.mp hl
    rw [List.foldl_cons]
    by_cases hadd : q x = true ∧ sizeOf m < limit
    · obtain ⟨hqx, hroom⟩ := hadd
      have hmx : inSet m x = false := hq x List.mem_cons_self hqx
      have hrest : ∀ j ∈ xs, q j = true → inSet (insertIn m x) j = false := fun j hj hqj => by
        have hne : j ≠ x := fun h => hx (h ▸ hj)
        rw [inSet_insertIn, hq j (List.mem_cons_of_mem x hj) hqj]
        simp [hne]
      rw [if_pos (by simp [hqx, hroom]), ih hxs _ hrest, inSet_insertIn, sizeOf_insertIn hmx]
      by_cases hi : i = x
      · subst hi
        simp [hqx, hroom]
      · have hne : x ≠ i := Ne.symm hi
        have hcount : ∀ n, sizeOf m + 1 + n = sizeOf m + (n + 1) := fun n => by omega
        simp [hi, hne, hqx, hcount]
    · rw [if_neg (by simpa using hadd), ih hxs _ fun j hj hqj => hq j (List.mem_cons_of_mem x hj) hqj]
      by_cases hi : i = x
      · subst hi
        by_cases hqx : q i = true
        · have hfull : ¬sizeOf m < limit := fun h => hadd ⟨hqx, h⟩
          simp [hx, hfull]
        · simp [hx, hqx]
      · have hne : x ≠ i := Ne.symm hi
        by_cases hqx : q x = true
        · have hfull : ¬sizeOf m < limit := fun h => hadd ⟨hqx, h⟩
          have hfull' : ∀ n, ¬sizeOf m + n < limit := fun n h => hfull (by omega)
          simp [hfull']
        · simp [hi, hne, hqx]

theorem takeWhile_stations (i : Station) : stations.takeWhile (· ≠ i) = stations.filter (· < i) := by
  revert i
  decide

/-- The set after the removals, one station at a time (R121). -/
theorem inSet_afterRemovals (own : Station) (r : PerStation Entry) (ref : StationSet) (i : Station) :
    inSet (afterRemovals own r ref) i = (inSet ref i && !(i ≠ own && removable (r[i]).presence)) := by
  rw [afterRemovals, inSet_foldl_removeFrom, decide_eq_true (mem_allStations i), Bool.true_and]

/-- A station that is added is none of the set before (R122). -/
theorem inSet_afterRemovals_of_isJoiner {own : Station} {r : PerStation Entry} {ref : StationSet} {j : Station}
    (h : isJoiner ref j r[j] = true) : inSet (afterRemovals own r ref) j = false := by
  have hout : inSet ref j = false := by
    simp only [isJoiner, Bool.and_eq_true] at h
    simpa using h.1.1.1
  rw [inSet_afterRemovals, hout, Bool.false_and]

/-- The set after the additions, one station at a time (R122). -/
theorem inSet_afterAdditions (c : Image) (r : PerStation Entry) (ref m : StationSet)
    (hm : ∀ j : Station, isJoiner ref j r[j] = true → inSet m j = false) (i : Station) :
    inSet (afterAdditions c r ref m) i = (inSet m i || (isJoiner ref i r[i] &&
      (decide (sizeOf ref ≤ c.maxMembers) &&
        decide (sizeOf m + (stations.filter fun j => decide (j < i) && isJoiner ref j r[j]).length < c.maxMembers)))) := by
  by_cases hover : c.maxMembers < sizeOf ref
  · simp [afterAdditions, hover, Nat.not_le.mpr hover]
  · have hfold := inSet_foldl_insertIn (fun j => isJoiner ref j r[j]) c.maxMembers stations nodup_stations m
      (fun j _ => hm j) i
    rw [afterAdditions, if_neg hover, hfold, takeWhile_stations, List.filter_filter,
      decide_eq_true (mem_allStations i), decide_eq_true (Nat.not_lt.mp hover)]
    simp only [Bool.true_and, Bool.and_comm]

/-- The desired set reads the reference set and, of each entry, the presence and what it reports (R121, R122). -/
theorem desiredSet_congr (c : Image) {s t : State} (href : referenceSet t.plan = referenceSet s.plan)
    (hpresence : ∀ j : Station, (t.roster[j]).presence = (s.roster[j]).presence)
    (hreported : ∀ j : Station, (t.roster[j]).reported = (s.roster[j]).reported)
    (hlock : ∀ j : Station, (t.roster[j]).lock = (s.roster[j]).lock) : desiredSet c t = desiredSet c s := by
  simp only [desiredSet, afterAdditions, afterRemovals, isJoiner, href, hpresence, hreported, hlock]
  rfl

/-! #### The Plan Controller's work at a boundary without an apply (R123, R127) -/

/-- The station that the Plan Controller's work of a boundary in the default order finds. -/
def beforePlanWork (c : Image) (s : State) : State :=
  fixBeaconPoint c (alignBoundary c (hasTimebase s) s.timer.corr (turn c s))

theorem beforePlanWork_frame (c : Image) (s : State) : beforePlanWork c s = { s with
    timer := (beforePlanWork c s).timer
    align := (beforePlanWork c s).align
    port := (beforePlanWork c s).port
    roster := (ageRoster c s).roster
    member := s.member.countWindows
    link := { s.link with beaconPoint := (beforePlanWork c s).link.beaconPoint, beaconDone := false } } := by
  rw [beforePlanWork, fixBeaconPoint, alignBoundary_frame]
  rfl

/-- Without an apply that is due the Plan Controller's work is the rest of R125. -/
theorem boundary_nil_of_no_apply {c : Image} {s : State}
    (h : ∀ r, s.plan.pending = some r → r.effSeq ≠ s.timer.seq + 1) :
    boundary c [] s = fixLength c (planRest c (beforePlanWork c s)) := by
  have hseq : (beforePlanWork c s).timer.seq = s.timer.seq + 1 := by
    rw [beforePlanWork, fixBeaconPoint, alignBoundary_frame]
    rfl
  have hplan : (beforePlanWork c s).plan = s.plan := by rw [beforePlanWork_frame]
  have hfree : applyDue (beforePlanWork c s) = false := by
    unfold applyDue
    split
    · rfl
    · rename_i r hr
      rw [hplan] at hr
      rw [hseq]
      exact beq_false_of_ne (h r hr)
  rw [boundary_nil]
  change fixLength c (if applyDue (beforePlanWork c s) then _ else planRest c (beforePlanWork c s)) = _
  rw [hfree]
  rfl

/-- A boundary's aging changes none of what the desired set reads (R53). -/
theorem ageRoster_entry (c : Image) (s : State) (j : Station) :
    ((ageRoster c s).roster[j]).presence = (s.roster[j]).presence ∧
      ((ageRoster c s).roster[j]).reported = (s.roster[j]).reported ∧
      ((ageRoster c s).roster[j]).lock = (s.roster[j]).lock := by
  have haged : (ageRoster c s).roster[j] = if j = c.station then s.roster[j] else (s.roster[j]).age :=
    getElem_mapPeers _ _ _ _
  rw [haged, Entry.age]
  split_ifs <;> exact ⟨rfl, rfl, rfl⟩

theorem holdsIssued_iff (p : PlanCtl) : p.holdsIssued = true ↔ p.pending.isSome = true ∧ p.pending = p.lastIssued := by
  simp [PlanCtl.holdsIssued]

/-- A repeat that is due (R127). -/
theorem repeatIssued_due {s : State} {r : PlanRecord} (hm : s.member.state = .active) (hr : s.plan.pending = some r)
    (hl : s.plan.lastIssued = some r) (hn : 0 < s.plan.repeats) : repeatIssued s =
      { s with link := s.link.requestPlan r, plan := { s.plan with repeats := s.plan.repeats - 1 } } := by
  have hholds : s.plan.holdsIssued = true := (holdsIssued_iff _).mpr ⟨by rw [hr]; rfl, by rw [hr, hl]⟩
  simp [repeatIssued, hr, hholds, hn, hm]

/-- No repeat is left, or the pending record no longer holds the issued plan (R127). -/
theorem repeatIssued_none {s : State}
    (h : s.plan.repeats = 0 ∨ s.plan.pending = none ∨ s.plan.pending ≠ s.plan.lastIssued) :
    repeatIssued s = { s with plan := { s.plan with repeats := 0 } } := by
  have hdone : s.plan.endRepeats = { s.plan with repeats := 0 } := by
    unfold PlanCtl.endRepeats
    split_ifs with hholds
    · obtain ⟨hsome, heq⟩ := (holdsIssued_iff _).mp hholds
      have hzero : s.plan.repeats = 0 := by
        rcases h with h | h | h
        · exact h
        · simp [h] at hsome
        · exact absurd heq h
      rw [← hzero]
    · rfl
  have hnot : ¬(s.plan.holdsIssued && 0 < s.plan.repeats && s.member.state == .active) = true := fun hall => by
    simp only [Bool.and_eq_true, decide_eq_true_eq, holdsIssued_iff] at hall
    obtain ⟨⟨⟨hsome, heq⟩, hpos⟩, -⟩ := hall
    rcases h with h | h | h
    · omega
    · simp [h] at hsome
    · exact h heq
  unfold repeatIssued
  split
  · rw [hdone]
  · rw [if_neg hnot, hdone]

/-- The evaluation of an ACTIVE station (R123). -/
theorem planRest_active {c : Image} {s : State} (hm : s.member.state = .active) : planRest c s =
    { repeatIssued (clearRelay s) with plan := { (repeatIssued (clearRelay s)).plan with
      holdoff := holdoffAfter c s.plan.holdoff (changeWanted c (repeatIssued (clearRelay s))) } } := by
  have hstate : (repeatIssued (clearRelay s)).member.state = .active := by
    rw [repeatIssued_frame]
    exact hm
  have hholdoff : (repeatIssued (clearRelay s)).plan.holdoff = s.plan.holdoff := by
    rw [repeatIssued_plan]
    rfl
  rw [planRest, evaluate, if_pos hstate, hholdoff]

theorem removable_eq (p : Presence) : removable p = (p == .silent || p == .departed || p == .excluded) := by
  cases p <;> rfl

/-- The Plan Controller's work at a boundary without an apply, for an ACTIVE station. -/
theorem boundary_nil_active {c : Image} {s : State} (hm : s.member.state = .active)
    (h : ∀ r, s.plan.pending = some r → r.effSeq ≠ s.timer.seq + 1) :
    (boundary c [] s).link = (repeatIssued (clearRelay (beforePlanWork c s))).link ∧
      (boundary c [] s).plan = { (repeatIssued (clearRelay (beforePlanWork c s))).plan with
        holdoff := holdoffAfter c s.plan.holdoff (changeWanted c s) } := by
  have hstate : (beforePlanWork c s).member.state = .active := by
    rw [beforePlanWork_frame]
    exact hm
  have hroster : (repeatIssued (clearRelay (beforePlanWork c s))).roster = (ageRoster c s).roster := by
    rw [repeatIssued_frame]
    change (beforePlanWork c s).roster = _
    rw [beforePlanWork_frame]
  have hplan : (beforePlanWork c s).plan = s.plan := by rw [beforePlanWork_frame]
  have href : referenceSet (repeatIssued (clearRelay (beforePlanWork c s))).plan = referenceSet s.plan := by
    rw [repeatIssued_plan, clearRelay_plan, hplan]
    rfl
  have hdesired : desiredSet c (repeatIssued (clearRelay (beforePlanWork c s))) = desiredSet c s :=
    desiredSet_congr c href (fun j => by simp only [hroster]; exact (ageRoster_entry c s j).1)
      (fun j => by simp only [hroster]; exact (ageRoster_entry c s j).2.1)
      (fun j => by simp only [hroster]; exact (ageRoster_entry c s j).2.2)
  have hwanted : changeWanted c (repeatIssued (clearRelay (beforePlanWork c s))) = changeWanted c s := by
    rw [changeWanted, changeWanted, hdesired, href]
  rw [boundary_nil_of_no_apply h, fixLength_link, fixLength_plan, planRest_active hstate, hwanted, hplan]
  exact ⟨rfl, rfl⟩

/-- Settles O13. -/
theorem holdoffCountsAtTheBoundary : Obligations.HoldoffCountsAtTheBoundary := by
  intro c s h hm hfree ref removed kept joins room wanted differs
  obtain ⟨hlink, hplan⟩ := boundary_nil_active (c := c) hm hfree
  obtain ⟨b, hb⟩ : ∃ b, b = clearRelay (beforePlanWork c s) := ⟨_, rfl⟩
  rw [← hb] at hlink hplan
  have hframe := beforePlanWork_frame c s
  have hbPlan : b.plan = { s.plan with relay := false } := by rw [hb, hframe]; rfl
  have hbPlanSlot : b.link.qPlan = s.link.qPlan := by rw [hb, hframe]; rfl
  have hbState : b.member.state = .active := by rw [hb, hframe]; exact hm
  have hkept : ∀ j : Station, inSet (afterRemovals c.station s.roster ref) j = kept j := fun j => by
    rw [inSet_afterRemovals, removable_eq]
    rfl
  have hsize : sizeOf (afterRemovals c.station s.roster ref) = (stations.filter kept).length := by
    rw [sizeOf, membersOf, funext hkept]
  have hwanted : ∀ j : Station,
      inSet (afterAdditions c s.roster ref (afterRemovals c.station s.roster ref)) j = wanted j := fun j => by
    rw [inSet_afterAdditions c s.roster ref _ (fun i hi => inSet_afterRemovals_of_isJoiner hi), hkept, hsize]
    rfl
  have hbits : ∀ j : Station, (desiredSet c s).getLsbD j.val =
      if (∃ i : Station, wanted i = true) then wanted j else ref.getLsbD j.val := fun j => by
    change inSet (if afterAdditions c s.roster ref (afterRemovals c.station s.roster ref) = 0 then ref
      else afterAdditions c s.roster ref (afterRemovals c.station s.roster ref)) j = _
    by_cases hsome : ∃ i : Station, wanted i = true
    · obtain ⟨i, hi⟩ := hsome
      rw [if_neg, if_pos ⟨i, hi⟩, hwanted]
      exact fun hzero => by simp [← hwanted, (eq_zero_iff_inSet _).mp hzero] at hi
    · rw [if_pos, if_neg hsome]
      · rfl
      · exact (eq_zero_iff_inSet _).mpr fun i => by
          rw [hwanted]
          exact Bool.eq_false_iff.mpr fun hi => hsome ⟨i, hi⟩
  have hdiffers : changeWanted c s = true ↔ differs := by
    rw [changeWanted_iff]
    constructor
    · intro hne
      by_contra hnone
      refine hne (stationSet_ext fun j => ?_)
      have hj := hbits j
      split_ifs at hj with hsome
      · by_contra hbit
        exact hnone ⟨j, hsome, fun heq => hbit (hj.trans heq)⟩
      · exact hj
    · rintro ⟨j, hsome, hne⟩ heq
      have hj := hbits j
      rw [if_pos hsome, heq] at hj
      exact hne hj.symm
  refine ⟨boundary c [] s, cycleBoundary_atEnd h, ?_⟩
  rw [hlink, hplan, repeatIssued_plan, hbPlan]
  refine ⟨rfl, rfl, rfl, rfl, rfl, hbits, fun hno => ?_, fun hyes hnone => ?_, fun hyes n hn => ?_,
    fun r hr hl hpos => ?_, fun r hr hl hzero => ?_, fun hother => ?_⟩
  · rw [Bool.eq_false_iff.mpr (mt hdiffers.mp hno)]
    cases s.plan.holdoff <;> rfl
  · rw [hdiffers.mpr hyes, hnone]
    rfl
  · rw [hdiffers.mpr hyes, hn]
    rfl
  · rw [repeatIssued_due hbState (by rw [hbPlan]; exact hr) (by rw [hbPlan]; exact hl) (by rw [hbPlan]; exact hpos)]
    exact ⟨requestPlan_qPlan _ _, by rw [hbPlan]⟩
  · rw [repeatIssued_none (.inl (by rw [hbPlan]; exact hzero))]
    exact ⟨hbPlanSlot, rfl⟩
  · rw [repeatIssued_none (.inr (by rw [hbPlan]; exact hother))]
    exact ⟨hbPlanSlot, rfl⟩

end Sys2Proof.Machine

/-! ### The transmitter and the receiver (R9, R16 to R18, R25 to R33) -/

namespace Sys2Proof.Machine

open Sys2Proof.Safety

/-! #### Launch (R18, R21, R22, R25) -/

theorem lowestOf_zero : lowestOf 0 = 0 := by decide

theorem sizeOf_zero : sizeOf 0 = 0 := by decide

/-- Settles O22. -/
theorem launchSendsTheHighestPriority : Obligations.LaunchSendsTheHighestPriority := by
  intro c s hc htx hrx hidle launches
  have hdue : launchDue c s = true := by
    rcases hrx with hrx | hrx <;> simp [launchDue, launchThreshold, htx, hrx, hidle]
  have hlaunches : ∀ body : FrameBody, arbitrate c s = some body → launches body := fun body hbody => by
    have hnow : launchNow c s =
        { s with timer := s.timer.captureNow, link := s.link.launch ⟨c.station, body⟩ } := by
      rw [launchNow, hbody]
    exact next_configured hc ((timed_now hdue).trans hnow)
  refine ⟨fun q hq => hlaunches _ ?_, fun q hfault hq => hlaunches _ ?_, fun q hfault hleave hq => hlaunches _ ?_,
    fun q hfault hleave hplan hq => ⟨beaconContent c s, hlaunches _ ?_, rfl, rfl, fun hm => ?_, fun hm => ?_,
      fun hm => ?_, ?_, rfl, fun r hr => ?_, fun hr => ?_, fun m hset => ?_, fun hset => ?_, rfl⟩⟩
  · simp only [arbitrate, hq]
  · simp only [arbitrate, hfault, hq]
  · simp only [arbitrate, hfault, hleave, hq]
  · simp only [arbitrate, hfault, hleave, hplan, hq]
  · simp only [beaconContent, hm, reportedState]
  · simp only [beaconContent, hm, reportedState]
  · simp only [beaconContent, hm, reportedState]
  · simp [beaconContent]
  · simp [beaconContent, hr]
  · simp [beaconContent, hr]
  · refine ⟨?_, by simp only [beaconContent, hset, Option.getD_some]⟩
    simp only [beaconContent, hset, Option.getD_some, BitVec.toNat_ofNat]
    exact Nat.mod_eq_of_lt (lowestOf m).isLt
  · simp only [beaconContent, hset, Option.getD_none, lowestOf_zero, sizeOf_zero]
    exact ⟨rfl, rfl⟩

/-! #### The end of a frame in flight (R26, R28 to R30) -/

/-- The transmitter after a frame in flight: DEFER or IDLE by its queue (R26). -/
theorem endSending_eq (l : Link) :
    l.endSending = { l with inFlight := none, tx := if l.waiting then .defer else .idle } := rfl

theorem clearSlot_frame (l : Link) (k : FrameKind) : l.clearSlot k = { l with
    qFault := (l.clearSlot k).qFault
    qLeave := (l.clearSlot k).qLeave
    qPlan := (l.clearSlot k).qPlan
    qBeacon := (l.clearSlot k).qBeacon } := by
  cases k <;> rfl

theorem countRetry_frame (l : Link) (k : FrameKind) : l.countRetry k = { l with
    qFault := (l.countRetry k).qFault
    qLeave := (l.countRetry k).qLeave
    qPlan := (l.countRetry k).qPlan
    qBeacon := (l.countRetry k).qBeacon } := by
  cases k <;> rfl

/-- The request of the frame in flight is dropped where it still holds its slot (R26, R27, R30). -/
def Link.freeSlot (l : Link) (f : InFlight) : Link :=
  if f.holdsSlot then l.clearSlot (bodyKind f.frame.body) else l

theorem retries_freeSlot (l : Link) (f : InFlight) (k : FrameKind) : (l.freeSlot f).retries k =
    if k = bodyKind f.frame.body ∧ f.holdsSlot = true then none else l.retries k := by
  by_cases hslot : f.holdsSlot = true
  · simp [Link.freeSlot, hslot, retries_clearSlot]
  · simp [Link.freeSlot, hslot]

theorem freeSlot_frame (l : Link) (f : InFlight) : l.freeSlot f = { l with
    qFault := (l.freeSlot f).qFault
    qLeave := (l.freeSlot f).qLeave
    qPlan := (l.freeSlot f).qPlan
    qBeacon := (l.freeSlot f).qBeacon } := by
  unfold Link.freeSlot
  split_ifs
  · exact clearSlot_frame _ _
  · rfl

theorem lineFault_eq (l : Link) (f : InFlight) : l.lineFault f = { l.freeSlot f with
    txDrop := countUp l.txDrop
    inFlight := none
    tx := if (l.freeSlot f).waiting then .defer else .idle
    rx := .settle
    rxBits := []
    idle := 0 } := rfl

theorem complete_eq (l : Link) (f : InFlight) : l.complete f = { l.freeSlot f with
    framesTx := countUp l.framesTx
    inFlight := none
    tx := if (l.freeSlot f).waiting then .defer else .idle
    rx := .hunt
    rxBits := []
    idle := 0 } := rfl

/-- The instant of a sample of the own frame has come (R17). -/
theorem sampleOf_of_sending {c : Image} {f : InFlight} {bit : Nat} {level : Bool} {s : State} (h : Sending c f s)
    (hbit : (frameBits f.frame)[bit]? = some level) (hage : s.timer.captureAge = bit * c.bitTime + c.bitTime / 2) :
    sampleOf c bit level s = true := by
  simp [sampleOf, sentBit, h.tx, h.flight, hbit, hage, midBit]

/-- Settles O24. -/
theorem lineFaultAbortsTheFrame : Obligations.LineFaultAbortsTheFrame := by
  intro c s f bit h hbit hage k
  have hdue : sampleOf c bit false s = true := sampleOf_of_sending h hbit hage
  have hnow : lineFaultNow s = raise .txDropped (dropCapture { s with link := s.link.lineFault f }) := by
    rw [lineFaultNow, h.flight]
  have hexec : exec (.lineFault bit) s = .next (raise .txDropped (dropCapture { s with link := s.link.lineFault f })) :=
    next_configured h.configured ((timed_now hdue).trans hnow)
  refine ⟨_, hexec, ?_⟩
  simp only [raise_link, dropCapture_link]
  refine ⟨rfl, ?_, rfl, rfl, rfl, ?_, countUp_eq _, rfl, ?_, fun k' hk' => ?_, rfl⟩
  · rw [lineFault_eq, freeSlot_frame]
  · rw [lineFault_eq, freeSlot_frame]
  · exact (retries_freeSlot s.link f k).trans (by simp [k])
  · exact (retries_freeSlot s.link f k').trans (if_neg fun hboth => hk' hboth.1)

/-- Settles O25. -/
theorem frameCompleteFreesTheSlot : Obligations.FrameCompleteFreesTheSlot := by
  intro c s f h hage k
  have hdue : completeDue c s = true := by simp [completeDue, h.tx, h.flight, hage]
  have hnow : completeNow s = { s with link := s.link.complete f } := by rw [completeNow, h.flight]
  have hexec : exec .frameComplete s = .next { s with link := s.link.complete f } :=
    next_configured h.configured ((timed_now hdue).trans hnow)
  refine ⟨_, hexec, rfl, ?_, rfl, rfl, rfl, ?_, countUp_eq _, rfl, ?_, fun k' hk' => ?_, rfl⟩
  · rw [complete_eq, freeSlot_frame]
  · rw [complete_eq, freeSlot_frame]
  · exact (retries_freeSlot s.link f k).trans (by simp [k])
  · exact (retries_freeSlot s.link f k').trans (if_neg fun hboth => hk' hboth.1)

/-! #### The yield (R28, R29) -/

/-- The link at a yield, but for the queue. -/
def Link.yielding (l : Link) (f : InFlight) (bit : Nat) : Link :=
  { l with yields := countUp l.yields, backoff := true, rxBits := (frameBits f.frame).take bit ++ [false] }

theorem dropsAtYield_iff (l : Link) (f : InFlight) : dropsAtYield l f = true ↔
    f.holdsSlot = true ∧ ∃ n, l.retries (bodyKind f.frame.body) = some n ∧ 7 ≤ n := by
  unfold dropsAtYield
  cases l.retries (bodyKind f.frame.body) <;> simp

theorem yield_drops {l : Link} {f : InFlight} (h : dropsAtYield l f = true) (bit : Nat) : l.yield f bit =
    ({ (l.yielding f bit).clearSlot (bodyKind f.frame.body) with txDrop := countUp l.txDrop }).endSending := by
  rw [Link.yield, if_pos h]
  rfl

theorem yield_counts {l : Link} {f : InFlight} (h : dropsAtYield l f = false) (hslot : f.holdsSlot = true) (bit : Nat) :
    l.yield f bit = ((l.yielding f bit).countRetry (bodyKind f.frame.body)).endSending := by
  rw [Link.yield, h, hslot]
  rfl

theorem yield_lost {l : Link} {f : InFlight} (hslot : f.holdsSlot = false) (bit : Nat) :
    l.yield f bit = (l.yielding f bit).endSending := by
  rw [Link.yield, dropsAtYield, hslot]
  rfl

/-- What every yield does (R28, R29). -/
theorem yield_frame (l : Link) (f : InFlight) (bit : Nat) : l.yield f bit = { l.yielding f bit with
    qFault := (l.yield f bit).qFault
    qLeave := (l.yield f bit).qLeave
    qPlan := (l.yield f bit).qPlan
    qBeacon := (l.yield f bit).qBeacon
    txDrop := (l.yield f bit).txDrop
    inFlight := none
    tx := if (l.yield f bit).waiting then .defer else .idle } := by
  cases hslot : f.holdsSlot
  · rw [yield_lost hslot]
    rfl
  · cases hdrop : dropsAtYield l f
    · rw [yield_counts hdrop hslot, countRetry_frame]
      rfl
    · rw [yield_drops hdrop, clearSlot_frame]
      rfl

/-- A yield of another kind than the request's leaves it (R28). -/
theorem retries_yield_other {l : Link} {f : InFlight} {k : FrameKind} (hk : k ≠ bodyKind f.frame.body) (bit : Nat) :
    (l.yield f bit).retries k = l.retries k := by
  have hbase : (l.yielding f bit).retries k = l.retries k := by cases k <;> rfl
  cases hslot : f.holdsSlot
  · rw [yield_lost hslot, retries_endSending, hbase]
  · cases hdrop : dropsAtYield l f
    · rw [yield_counts hdrop hslot, retries_endSending, retries_countRetry, if_neg hk, hbase]
    · rw [yield_drops hdrop, retries_endSending]
      exact (retries_clearSlot (l.yielding f bit) _ _).trans ((if_neg hk).trans hbase)

theorem wiredAnd_nil (levels : List Bool) : wiredAnd levels [] = levels := by
  cases levels <;> rfl

/-- Settles O23. -/
theorem yieldBacksOffAndCountsRetries : Obligations.YieldBacksOffAndCountsRetries := by
  intro c s f bit rest h hbit hlevel hage k
  have hdue : sampleOf c bit true s = true := sampleOf_of_sending h hlevel hage
  obtain ⟨t, ht⟩ : ∃ t, t = yieldNow c ⟨bit, rest⟩ s := ⟨_, rfl⟩
  have hexec : exec (.yieldAt ⟨bit, rest⟩) s = .next t :=
    next_configured h.configured ((if_neg hbit).trans ((timed_now hdue).trans ht.symm))
  have hnow : t = { s with
      link := s.link.yield f bit
      line := wiredAnd s.line (yieldLevels c rest s)
      port := if dropsAtYield s.link f then s.port.raise .txDropped else s.port } := by
    rw [ht, yieldNow, h.flight]
    dsimp only
    split_ifs <;> rfl
  have hlink : t.link = s.link.yield f bit := by rw [hnow]
  have hport : t.port = if dropsAtYield s.link f then s.port.raise .txDropped else s.port := by rw [hnow]
  have hframe := yield_frame s.link f bit
  refine ⟨t, hexec, ?_⟩
  rw [hlink]
  refine ⟨by rw [hframe], by rw [hframe]; rfl, by rw [hframe]; exact countUp_eq _, by rw [hframe]; rfl,
    by rw [hframe]; rfl, by rw [hframe]; rfl, by rw [hframe]; rfl, fun hslot => ?_, fun n hslot hn hfew => ?_,
    fun n hslot hn hmany => ?_, fun k' hk' => retries_yield_other hk' bit, ?_, by rw [hnow]⟩
  · have hkeep : dropsAtYield s.link f = false := by rw [dropsAtYield, hslot, Bool.false_and]
    rw [hport, hkeep, yield_lost hslot]
    exact ⟨rfl, rfl, rfl, rfl, rfl, rfl⟩
  · have hkeep : dropsAtYield s.link f = false := by
      rw [← Bool.not_eq_true, dropsAtYield_iff]
      rintro ⟨-, m, hm, hseven⟩
      rw [hn, Option.some.injEq] at hm
      omega
    have hbase : (s.link.yielding f bit).retries k = some n := hn ▸ (by cases k <;> rfl)
    rw [hport, hkeep, yield_counts hkeep hslot, retries_endSending, retries_countRetry, if_pos rfl, hbase,
      countRetry_frame]
    exact ⟨rfl, rfl, rfl⟩
  · have hdrop : dropsAtYield s.link f = true := (dropsAtYield_iff _ _).mpr ⟨hslot, n, hn, hmany⟩
    rw [hport, hdrop, yield_drops hdrop, retries_endSending]
    exact ⟨(retries_clearSlot (s.link.yielding f bit) _ _).trans (if_pos rfl), countUp_eq _, rfl⟩
  · have hline : t.line = wiredAnd s.line (yieldLevels c rest s) := by rw [hnow]
    rw [hline, yieldLevels]
    split_ifs
    · rfl
    · exact wiredAnd_nil _

/-! #### The receiver (R31, R33) -/

/-- A line that another station drives low does not read recessive (R16). -/
theorem pbRecessive_othersSend_dominant {c : Image} (h : 0 < c.bitTime) (rest : List Bool) (s : State) :
    pbRecessive (othersSend (levelsOf c (false :: rest)) s) = false := by
  obtain ⟨n, hn⟩ : ∃ n, c.bitTime = n + 1 := ⟨c.bitTime - 1, by omega⟩
  have hlevels : levelsOf c (false :: rest) = false :: (List.replicate n false ++ levelsOf c rest) := by
    simp [levelsOf, hn, List.replicate_succ]
  have hhead : (wiredAnd s.line (levelsOf c (false :: rest))).headD true = false := by
    rw [hlevels]
    cases s.line <;> simp [wiredAnd]
  unfold pbRecessive
  rw [othersSend_line, hhead, Bool.false_and]

/-- A start bit that other stations send is seen at once (R31, R18). -/
theorem takeEdge_dominant {c : Image} (h : 0 < c.bitTime) (rest : List Bool) (s : State) :
    takeEdge c (false :: rest) s = takeDominant (othersSend (levelsOf c (false :: rest)) s) :=
  if_neg (Bool.eq_false_iff.mp (pbRecessive_othersSend_dominant h rest s))

theorem takeDominant_hunt {s : State} (h : s.link.rx = .hunt) : takeDominant s = beginFrame s := by
  simp only [takeDominant, h]

theorem takeDominant_settle {s : State} (h : s.link.rx = .settle) :
    takeDominant s = { s with link := { s.link with idle := 0 } } := by
  simp only [takeDominant, h]

/-- Settles O26. -/
theorem receiverHuntsTakesAndRejectsStartBits : Obligations.ReceiverHuntsTakesAndRejectsStartBits := by
  intro c s hc
  refine ⟨fun hrx hidle => ?_, fun rest hrx hbit => ?_, fun rest hrx hbit => ?_, fun hrx htx hbits => ?_⟩
  · have hdue : huntDue c s = true := by simp [huntDue, idleThreshold, hrx, hidle]
    exact next_configured hc (timed_now hdue)
  · exact next_configured hc ((takeEdge_dominant hbit rest s).trans (takeDominant_hunt hrx))
  · exact next_configured hc ((takeEdge_dominant hbit rest s).trans (takeDominant_settle hrx))
  · have hdue : glitchDue s = true := by simp [glitchDue, following, hrx, htx, hbits]
    have hstart : (if s.link.rx = .hunt then takeDominant (othersSend [false] s) else s) = s :=
      if_neg (by rw [hrx]; decide)
    refine next_configured hc ?_
    rw [hstart]
    exact timed_now hdue

/-- Settles O27. -/
theorem frameErrorIsDiscarded : Obligations.FrameErrorIsDiscarded := by
  intro c s bits pos hc hjudge hbits hrx htx hage
  have hdue : errorOf c bits s = true := by
    have herror : errorAge c bits pos = s.timer.captureAge := hage.symm
    simp [errorOf, errorDue, following, hbits, hjudge, hrx, htx, herror]
  refine next_configured hc ((received_now hrx hdue).trans ?_)
  rw [← countUp_eq]
  rfl

end Sys2Proof.Machine

/-! ### LEAVE, FAULT and the own number on the bus (R34, R35, R44, R51, R52, R111, R169) -/

namespace Sys2Proof.Machine

open Sys2Proof.Safety

theorem endFrame_eq (s : State) : endFrame s = { s with link := Received s.link } := rfl

/-- The delivery of a peer's frame at its end (R34). -/
theorem takeFrame_of_peer {c : Image} {j : Station} {body : FrameBody} {order : BeaconOrder} {s : State}
    (h : AtFrameEnd c ⟨j, body⟩ s) (hj : j ≠ c.station) : takeFrame c ⟨j, body⟩ order s =
      match body with
      | .beacon b => takeBeacon c j b order { s with link := Received s.link }
      | .plan r => takePlan c j r { s with link := Received s.link }
      | .fault b => takeFault c j b { s with link := Received s.link }
      | .leave b => takeLeave j b { s with link := Received s.link } := by
  rw [takeFrame_atEnd h, deliver, if_neg hj]
  cases body <;> rfl

/-- Settles O29. -/
theorem leaveFrameDepartsTheSender : Obligations.LeaveFrameDepartsTheSender := fun _ _ _ _ h hj =>
  next_configured h.configured (takeFrame_of_peer h hj)

/-! #### A FAULT (R51, R169) -/

theorem inGroup_iff (m : Membership) : inGroup m = true ↔ m = .active ∨ m = .draining := by
  cases m <;> decide

theorem groupTrips_iff (c : Image) (inCur : Bool) (b : FaultBody) (s : State) : groupTrips c inCur b s = true ↔
    b.gtrip = true ∧ inCur = true ∧ c.honourTrip = true ∧ (s.member.state = .active ∨ s.member.state = .draining) := by
  simp only [groupTrips, Bool.and_eq_true, inGroup_iff]
  tauto

/-- Settles O30. -/
theorem faultFrameMarksAndTrips : Obligations.FaultFrameMarksAndTrips := by
  intro c s j b h hj entry trips
  have htrips : groupTrips c (inCurrent s j) b { s with link := Received s.link } = true ↔ trips := groupTrips_iff _ _ _ _
  let marked : State := raise .peerFault { s with link := Received s.link, roster := putAt s.roster j entry }
  have hexec : exec (.fault j b) s = .next (takeFault c j b { s with link := Received s.link }) :=
    next_configured h.configured (takeFrame_of_peer h hj)
  constructor
  · intro hno
    have htake : takeFault c j b { s with link := Received s.link } = marked := if_neg (mt htrips.mp hno)
    rw [hexec, htake]
    rfl
  · intro hyes hlatch
    have htake : takeFault c j b { s with link := Received s.link } = latch .group false marked := if_pos (htrips.mpr hyes)
    have hgroup : inGroup marked.member.state = true := (inGroup_iff _).mpr hyes.2.2.2
    have hfirst := latch_first (o := .group) (g := false) (s := marked) hlatch
    rw [if_pos hgroup] at hfirst
    have hlink : (latch .group false marked).link =
        ((Received s.link).requestFault ⟨.group, false⟩).withdrawFor .faulted := by
      rw [latch_first_link (s := marked) hlatch, if_pos hgroup]
      rfl
    refine ⟨latch .group false marked, hexec.trans (congrArg _ htake), ?_⟩
    rw [hlink, hfirst]
    refine ⟨rfl, rfl, ?_, by simp, by simp [withdrawFor_qBeacon], by simp [Received], by simp [withdrawFor_qPlan, Received],
      ?_, ?_, rfl, rfl, ?_⟩
    · rw [← countUp_eq]
      rfl
    · exact BitVec.or_assoc _ _ _
    · exact congrArg (fun m => ({ s.port with flags := _, marks := m } : Port)) (BitVec.and_assoc _ _ _)
    · rw [← hlink, hfirst]
      rfl

/-! #### A clash (R35, R111) -/

/-- A frame of the own number is a clash in either order of a BEACON (R35). -/
theorem takeFrame_own_order (c : Image) (body : FrameBody) (order : BeaconOrder) (s : State) :
    takeFrame c ⟨c.station, body⟩ order s = takeFrame c ⟨c.station, body⟩ .beaconFirst s := by
  have hdeliver : ∀ o, deliver c ⟨c.station, body⟩ o = fun t => clash (endFrame t) := fun o =>
    funext fun t => if_pos rfl
  simp only [takeFrame, hdeliver]

/-- The transmitter after an entry into DETACHED: the FAULT and the LEAVE request alone can wait (R24, R25). -/
theorem enterState_detached_tx {l : Link} (h : l.tx = .idle ∨ l.tx = .defer) :
    (l.enterState .detached).tx = if l.qFault.isSome || l.qLeave.isSome then .defer else .idle := by
  have hbeacon : l.withdrawBeacon.tx = .idle ∨ l.withdrawBeacon.tx = .defer := by
    rcases h with h | h <;> simp only [Link.withdrawBeacon, settleTx_tx, loseSlot_tx, h] <;> split_ifs <;> simp
  rw [enterState_of_ne l (by decide)]
  change l.withdrawBeacon.withdrawPlan.tx = _
  rcases hbeacon with hb | hb <;>
    simp [Link.withdrawPlan, settleTx_tx, hb, Link.waiting]

/-- The link that a change into DETACHED leaves (R24). -/
theorem enterState_detached_frame (l : Link) : (l.enterState .detached).framesRx = l.framesRx ∧
    (l.enterState .detached).beaconPoint = l.beaconPoint := by
  rw [enterState_of_ne l (by decide)]
  simp

/-- The link at a clash in a state that leaves it (R111). -/
def Link.clashed (l : Link) (m : Membership) : Link :=
  (if inGroup m then l.requestLeave .clash else l).enterState .detached

theorem requestLeave_tx {l : Link} (h : l.tx = .idle ∨ l.tx = .defer) (r : LeaveReason) :
    (l.requestLeave r).tx = .defer :=
  (settleTx_tx_of_waiting (l := { l.loseSlot .leave with qLeave := some ⟨r, 0⟩ }) (by simp [Link.waiting])).1 h

/-- The queue, the transmitter and the counts after a clash. -/
theorem clashed_link (l : Link) (m : Membership) :
    ((l.clashed m).qBeacon = none ∧ (l.clashed m).qPlan = none ∧ (l.clashed m).qFault = l.qFault ∧
      (inGroup m = true → (l.clashed m).qLeave = some ⟨.clash, 0⟩) ∧
      (inGroup m = false → (l.clashed m).qLeave = l.qLeave) ∧ (l.clashed m).rx = l.rx ∧
      (l.clashed m).backoff = l.backoff) ∧
    (l.tx = .idle ∨ l.tx = .defer → (l.clashed m).tx =
      if (l.clashed m).qFault.isSome || (l.clashed m).qLeave.isSome then .defer else .idle) ∧
    (l.clashed m).framesRx = l.framesRx ∧ (l.clashed m).beaconPoint = l.beaconPoint := by
  unfold Link.clashed
  generalize hbefore : (if inGroup m then l.requestLeave .clash else l) = before
  obtain ⟨hbeacon, hplan, hfault, hleave, hrx, hbackoff⟩ := enterState_detached before
  obtain ⟨hframes, hpoint⟩ := enterState_detached_frame before
  rw [hbeacon, hplan, hfault, hleave, hrx, hbackoff, hframes, hpoint]
  cases hm : inGroup m <;> rw [hm] at hbefore <;> subst hbefore
  · exact ⟨⟨rfl, rfl, rfl, nofun, fun _ => rfl, rfl, rfl⟩, enterState_detached_tx, rfl, rfl⟩
  · exact ⟨⟨rfl, rfl, requestLeave_qFault _ _, fun _ => requestLeave_qLeave _ _, nofun, requestLeave_rx _ _,
      requestLeave_backoff _ _⟩, fun htx => enterState_detached_tx (.inr (requestLeave_tx htx _)),
      requestLeave_framesRx _ _, requestLeave_beaconPoint _ _⟩

/-- A clash in FAULTED or DETACHED (R111). -/
theorem clash_stays {s : State} (h : s.member.state = .faulted ∨ s.member.state = .detached) :
    clash s = raise .clash { s with member := { s.member with clashHold := true } } := by
  rcases h with h | h <;> simp only [clash, h]

/-- A clash in any other state of a configured station (R111). -/
theorem clash_leaves {s : State} (h : ¬(s.member.state = .faulted ∨ s.member.state = .detached))
    (hc : s.member.state ≠ .unconfigured) : clash s = raise .clash { s with
      member := { s.member.enter .detached with clashHold := true }
      link := s.link.clashed s.member.state
      plan := if s.member.state = .active then s.plan.leaveActive else s.plan
      gen := if s.member.state = .active then s.gen.leaveActive else s.gen } := by
  cases hm : s.member.state <;> simp_all [clash, moveTo, Link.clashed, inGroup]

/-- Settles O38. -/
theorem clashDetachesTheStation : Obligations.ClashDetachesTheStation := by
  intro c s hc
  have hclash : ∀ body, exec (.clashFrame body) s = .next (takeFrame c ⟨c.station, body⟩ .beaconFirst s) := fun body =>
    next_configured hc rfl
  refine ⟨fun b order => (next_configured hc (takeFrame_own_order c _ order s)).trans (hclash _).symm,
    fun r => (next_configured hc rfl).trans (hclash _).symm, fun b => (next_configured hc rfl).trans (hclash _).symm,
    fun b => (next_configured hc rfl).trans (hclash _).symm, fun body h hm => ?_⟩
  · have hexec : exec (.clashFrame body) s = .next (clash { s with link := Received s.link }) :=
      next_configured hc ((takeFrame_atEnd h).trans (if_pos rfl))
    refine ⟨_, hexec, ?_⟩
    by_cases hstay : s.member.state = .faulted ∨ s.member.state = .detached
    · rw [clash_stays (s := { s with link := Received s.link }) hstay]
      have hgroup : ¬(s.member.state = .active ∨ s.member.state = .draining) := by
        rcases hstay with hs | hs <;> simp [hs]
      have hactive : s.member.state ≠ .active := fun ha => hgroup (.inl ha)
      rw [if_neg hactive, if_neg hactive]
      exact ⟨fun _ => ⟨rfl, rfl⟩, fun hn => absurd hstay hn, rfl, rfl, rfl, rfl, fun hn => absurd hn hgroup, fun _ => rfl,
        countUp_eq _, rfl, rfl, rfl, rfl⟩
    · rw [clash_leaves (s := { s with link := Received s.link }) hstay hm]
      obtain ⟨hqueue, htx, hframes⟩ := clashed_link (Received s.link) s.member.state
      obtain ⟨hbeacon, hplan, hfault, hleaveIn, hleaveOut, hrx, hbackoff⟩ := hqueue
      exact ⟨fun hs => absurd hs hstay, fun _ => ⟨rfl, hbeacon, hplan, htx⟩, hfault, hbackoff, hframes.2, rfl,
        fun hg => hleaveIn ((inGroup_iff _).mpr hg), fun hg => hleaveOut (Bool.eq_false_iff.mpr (mt (inGroup_iff _).mp hg)),
        hframes.1.trans (countUp_eq _), hrx, rfl, rfl, rfl⟩

end Sys2Proof.Machine

/-! ### A PLAN of a peer (R50, R124, R127, R129 to R132) -/

namespace Sys2Proof.Machine

open Sys2Proof.Safety

/-- The station that has received a PLAN and refreshed its sender's entry (R50, R44). -/
def planHeard (j : Station) (s : State) : State :=
  { s with
    link := Received s.link
    roster := putAt s.roster j { s.roster[j] with
      silence := 0
      presence := (if (s.roster[j]).presence = .absent then (if inCurrent s j then .member else .heard)
        else (s.roster[j]).presence) } }

/-- A PLAN at its end comes to the adoption tests (R129). -/
theorem exec_plan_atEnd {c : Image} {j : Station} {r : PlanRecord} {s : State} (h : AtFrameEnd c ⟨j, .plan r⟩ s)
    (hj : j ≠ c.station) : exec (.plan j r) s = .next (judgePlan c r (planHeard j s)) :=
  next_configured h.configured (takeFrame_of_peer h hj)

/-- The tests that turn a plan away (R129, R130). -/
theorem judgePlan_ignored {c : Image} {r : PlanRecord} {s : State}
    (h : s.align.state = .free ∨ r.members = 0 ∨ (∀ e, s.plan.epoch = some e → newer r.epoch e = false) ∨
      (∃ h, s.plan.pending = some h ∧ r.epoch ≠ h.epoch ∧ newer r.epoch h.epoch = false)) : judgePlan c r s = s := by
  unfold judgePlan
  cases he : s.plan.epoch with
  | none => rfl
  | some cur =>
    rcases h with hfree | hempty | hold | ⟨held, hheld, hne, hnot⟩
    · simp [hfree]
    · simp [hempty]
    · simp [hold cur he]
    · simp [hheld, hne, hnot]

/-- Settles O31. -/
theorem ignoredPlanChangesNoRecord : Obligations.IgnoredPlanChangesNoRecord := fun _ _ _ _ h hj hignored =>
  (exec_plan_atEnd h hj).trans (congrArg _ (judgePlan_ignored hignored))

/-- A plan that the tests against the current epoch let pass (R129). -/
structure Passes (r : PlanRecord) (e : Epoch) (s : State) : Prop where
  timebase : s.align.state ≠ .free
  members : r.members ≠ 0
  epoch : s.plan.epoch = some e
  newer : newer r.epoch e = true

theorem judgePlan_of_passes {c : Image} {r : PlanRecord} {e : Epoch} {s : State} (h : Passes r e s) :
    (s.plan.pending = none → judgePlan c r s = adoptPlan c r s) ∧
    (∀ held, s.plan.pending = some held → r.epoch = held.epoch → judgePlan c r s = settleEqual c r held s) ∧
    (∀ held, s.plan.pending = some held → Machine.newer r.epoch held.epoch = true →
      judgePlan c r s = adoptPlan c r s) := by
  have hpass : ¬(s.align.state = .free ∨ r.members = 0 ∨ (!Machine.newer r.epoch e) = true) := by
    simpa [h.newer] using ⟨h.timebase, h.members⟩
  unfold judgePlan
  rw [h.epoch]
  dsimp only
  rw [if_neg hpass]
  refine ⟨fun hp => by rw [hp], fun held hp heq => ?_, fun held hp hnewer => ?_⟩
  · rw [hp]
    exact if_pos heq
  · have hne : r.epoch ≠ held.epoch := fun heq => by simp [heq, Machine.newer] at hnewer
    rw [hp]
    exact (if_neg hne).trans (if_pos hnewer)

/-! #### Adoption -/

theorem endRepeats_of_pending {p : PlanCtl} {r : PlanRecord} (h : p.pending = some r) :
    p.endRepeats = { p with repeats := if p.pending = p.lastIssued then p.repeats else 0 } := by
  unfold PlanCtl.endRepeats
  by_cases hsame : p.pending = p.lastIssued
  · rw [if_pos ((holdsIssued_iff p).mpr ⟨by rw [h]; rfl, hsame⟩), if_pos hsame]
  · rw [if_neg fun hholds => hsame ((holdsIssued_iff p).mp hholds).2, if_neg hsame]

/-- The records of an adopted plan, but for the holdoff (R130, R132, R127). -/
def PlanCtl.adopted (p : PlanCtl) (r : PlanRecord) (q : Seq) : PlanCtl :=
  { p with
    pending := some (heldRecord r q)
    late := if isLate r q then countUp p.late else p.late
    repeats := if some (heldRecord r q) = p.lastIssued then p.repeats else 0 }

theorem adoptPlan_eq (c : Image) (r : PlanRecord) (s : State) :
    adoptPlan c r s = reevaluate c { s with plan := s.plan.adopted r s.timer.seq } := by
  unfold adoptPlan
  dsimp only
  rw [endRepeats_of_pending rfl]
  rfl

/-- A stopped holdoff stays stopped (R124). -/
theorem reevaluate_stopped {c : Image} {s : State} (h : s.plan.holdoff = none) : reevaluate c s = s := by
  simp only [reevaluate, h]

/-- A counting holdoff restarts or stops (R124). -/
theorem reevaluate_counting {c : Image} {s : State} (h : s.plan.holdoff ≠ none) : reevaluate c s = { s with
    plan := { s.plan with
      holdoff := if desiredSet c s = referenceSet s.plan then none else some (holdoffStart c) } } := by
  unfold reevaluate
  cases hh : s.plan.holdoff with
  | none => exact absurd hh h
  | some n =>
    by_cases hsame : desiredSet c s = referenceSet s.plan
    · simp [changeWanted, hsame]
    · simp [changeWanted, hsame]

/-- The desired set reads nothing of the holdoff (R121). -/
theorem desiredSet_holdoff (c : Image) (s : State) (holdoff : Option Nat) :
    desiredSet c { s with plan := { s.plan with holdoff := holdoff } } = desiredSet c s := rfl

theorem heldRecord_members (r : PlanRecord) (q : Seq) : (heldRecord r q).members = r.members := by
  unfold heldRecord
  split_ifs <;> rfl

/-- An adoption changes the plan records alone (R130, R132, R124). -/
theorem adoptPlan_plan (c : Image) (r : PlanRecord) (s : State) : adoptPlan c r s = { s with
    plan := { s.plan.adopted r s.timer.seq with holdoff := (adoptPlan c r s).plan.holdoff } } := by
  rw [adoptPlan_eq]
  by_cases hstop : s.plan.holdoff = none
  · rw [reevaluate_stopped (s := { s with plan := s.plan.adopted r s.timer.seq }) hstop]
  · rw [reevaluate_counting (s := { s with plan := s.plan.adopted r s.timer.seq }) hstop]

/-- The holdoff after an adoption (R124). -/
theorem adoptPlan_holdoff (c : Image) (r : PlanRecord) (s : State) : (adoptPlan c r s).plan.holdoff =
    if s.plan.holdoff = none then none
    else if desiredSet c (adoptPlan c r s) = r.members then none else some (holdoffStart c) := by
  rw [adoptPlan_eq]
  by_cases hstop : s.plan.holdoff = none
  · rw [if_pos hstop, reevaluate_stopped (s := { s with plan := s.plan.adopted r s.timer.seq }) hstop]
    exact hstop
  · rw [if_neg hstop, reevaluate_counting (s := { s with plan := s.plan.adopted r s.timer.seq }) hstop]
    have href : referenceSet (s.plan.adopted r s.timer.seq) = r.members := heldRecord_members r _
    rw [← href]
    rfl

theorem isLate_iff (r : PlanRecord) (q : Seq) :
    isLate r q = true ↔ ¬(1 ≤ (r.effSeq - q).toNat ∧ (r.effSeq - q).toNat ≤ 127) := by
  rw [← newer_iff, isLate]
  simp

theorem heldRecord_of_late {r : PlanRecord} {q : Seq} (h : isLate r q = true) :
    heldRecord r q = { r with effSeq := q + 1 } := if_pos h

theorem heldRecord_of_not_late {r : PlanRecord} {q : Seq} (h : isLate r q = false) : heldRecord r q = r :=
  if_neg (Bool.eq_false_iff.mp h)

/-- The pending record and the count of late plans after an adoption (R132). -/
theorem adopted_late (p : PlanCtl) (r : PlanRecord) (q : Seq) :
    (¬¬(1 ≤ (r.effSeq - q).toNat ∧ (r.effSeq - q).toNat ≤ 127) →
      (p.adopted r q).pending = some r ∧ (p.adopted r q).late = p.late) ∧
    (¬(1 ≤ (r.effSeq - q).toNat ∧ (r.effSeq - q).toNat ≤ 127) →
      (p.adopted r q).pending = some { r with effSeq := q + 1 } ∧
        (p.adopted r q).late = if p.late = 0xFFFF#16 then 0xFFFF#16 else p.late + 1) := by
  rw [← isLate_iff]
  constructor
  · intro hlate
    rw [Bool.not_eq_true] at hlate
    rw [PlanCtl.adopted, heldRecord_of_not_late hlate, hlate]
    exact ⟨rfl, rfl⟩
  · intro hlate
    rw [PlanCtl.adopted, heldRecord_of_late hlate, hlate, ← countUp_eq]
    exact ⟨rfl, rfl⟩

/-- Settles O32. -/
theorem newerPlanIsAdopted : Obligations.NewerPlanIsAdopted := by
  intro c s j r e h hj hbase hset he hnewer hpending late
  obtain ⟨hfirst, -, holder⟩ := judgePlan_of_passes (c := c) (s := planHeard j s) ⟨hbase, hset, he, hnewer⟩
  have hadopt : judgePlan c r (planHeard j s) = adoptPlan c r (planHeard j s) := by
    cases hp : s.plan.pending with
    | none => exact hfirst hp
    | some held => exact holder held hp (hpending held hp)
  have hframe := adoptPlan_plan c r (planHeard j s)
  have hholdoff := adoptPlan_holdoff c r (planHeard j s)
  obtain ⟨hnot, hlate⟩ := adopted_late s.plan r s.timer.seq
  obtain ⟨t, ht⟩ : ∃ t, t = adoptPlan c r (planHeard j s) := ⟨_, rfl⟩
  rw [← ht] at hframe hholdoff
  have hplan : t.plan = { s.plan.adopted r s.timer.seq with holdoff := t.plan.holdoff } := congrArg State.plan hframe
  refine ⟨t, (exec_plan_atEnd h hj).trans (congrArg _ (hadopt.trans ht.symm)), fun hl => ?_, fun hl => ?_, fun hn => ?_,
    fun hn hd => ?_, fun hn hd => ?_, ?_⟩
  · rw [hplan]
    exact hnot hl
  · rw [hplan]
    exact hlate hl
  · exact hholdoff.trans (if_pos hn)
  · exact hholdoff.trans ((if_neg hn).trans (if_pos hd))
  · exact hholdoff.trans ((if_neg hn).trans (if_neg hd))
  · rw [hframe]
    rfl

/-! #### Two plans of one epoch (R131) -/

theorem settleEqual_same_issuer {c : Image} {r held : PlanRecord} {s : State}
    (hsame : r.members = held.members ∧ r.effSeq = held.effSeq) (hissuer : r.issuer = held.issuer) :
    settleEqual c r held s = s := by
  rw [settleEqual, if_pos hsame, if_pos hissuer]

theorem settleEqual_other_issuer {c : Image} {r held : PlanRecord} {s : State}
    (hsame : r.members = held.members ∧ r.effSeq = held.effSeq) (hissuer : r.issuer ≠ held.issuer) :
    settleEqual c r held s = { s with plan := { s.plan with
      pending := some { held with issuer := min r.issuer held.issuer }
      repeats := if some { held with issuer := min r.issuer held.issuer } = s.plan.lastIssued then s.plan.repeats
        else 0 } } := by
  rw [settleEqual, if_pos hsame, if_neg hissuer]
  dsimp only
  rw [endRepeats_of_pending rfl]

/-- The station that has counted a conflict (R131, R137). -/
def planConflict (s : State) : State :=
  { s with plan := { s.plan with conflict := countUp s.plan.conflict } }

theorem settleEqual_conflict {c : Image} {r held : PlanRecord} {s : State}
    (hdiff : ¬(r.members = held.members ∧ r.effSeq = held.effSeq)) : settleEqual c r held s =
      if r.issuer < held.issuer then adoptPlan c r (planConflict s) else planConflict s := by
  rw [settleEqual, if_neg hdiff]
  rfl

/-- Settles O33. -/
theorem rivalPlanIsSettledByIssuer : Obligations.RivalPlanIsSettledByIssuer := by
  intro c s j r held e h hj hbase hset he hnewer hpending hequal late same
  obtain ⟨-, hsettle, -⟩ := judgePlan_of_passes (c := c) (s := planHeard j s) ⟨hbase, hset, he, hnewer⟩
  have hexec : exec (.plan j r) s = .next (settleEqual c r held (planHeard j s)) :=
    (exec_plan_atEnd h hj).trans (congrArg _ (hsettle held hpending hequal))
  by_cases hsame : same
  · by_cases hissuer : r.issuer = held.issuer
    · rw [settleEqual_same_issuer hsame hissuer] at hexec
      refine ⟨_, hexec, fun _ => ⟨?_, rfl⟩, fun hn => absurd hsame hn, fun hn => absurd hsame hn, fun hn => absurd hsame hn,
        fun hn => absurd hsame hn, fun hn => absurd hsame hn, fun _ => ⟨rfl, rfl⟩, ?_⟩
      · rw [hissuer, min_self]
        exact hpending
      · have hcond : ¬(same ∧ r.issuer ≠ held.issuer ∨ ¬same ∧ r.issuer < held.issuer) := by
          rintro (hboth | hboth)
          · exact hboth.2 hissuer
          · exact hboth.1 hsame
        simp only [hcond, false_and, if_false]
        rfl
    · rw [settleEqual_other_issuer hsame hissuer] at hexec
      refine ⟨_, hexec, fun _ => ⟨rfl, rfl⟩, fun hn => absurd hsame hn, fun hn => absurd hsame hn, fun hn => absurd hsame hn,
        fun hn => absurd hsame hn, fun hn => absurd hsame hn, fun _ => ⟨rfl, rfl⟩, ?_⟩
      have hcond : same ∧ r.issuer ≠ held.issuer ∨ ¬same ∧ r.issuer < held.issuer := .inl ⟨hsame, hissuer⟩
      simp only [hcond, true_and, ne_eq, ite_not]
      rfl
  · rw [settleEqual_conflict hsame] at hexec
    by_cases hlower : r.issuer < held.issuer
    · rw [if_pos hlower] at hexec
      obtain ⟨t, ht⟩ : ∃ t, t = adoptPlan c r (planConflict (planHeard j s)) := ⟨_, rfl⟩
      have hframe := adoptPlan_plan c r (planConflict (planHeard j s))
      have hholdoff := adoptPlan_holdoff c r (planConflict (planHeard j s))
      obtain ⟨hnot, hlate⟩ := adopted_late s.plan r s.timer.seq
      rw [← ht] at hframe hholdoff hexec
      have hplan : t.plan = { (planConflict s).plan.adopted r s.timer.seq with holdoff := t.plan.holdoff } :=
        congrArg State.plan hframe
      refine ⟨t, hexec, fun hs => absurd hs hsame, fun _ => ?_, fun _ _ hl => ?_, fun _ _ hl => ?_, fun _ _ => hholdoff,
        fun _ hle => absurd hlower (not_lt.mpr hle),
        fun hor => (hor.elim hsame fun hle => not_lt.mpr hle hlower).elim, ?_⟩
      · rw [hplan]
        exact countUp_eq _
      · rw [hplan]
        exact hnot hl
      · rw [hplan]
        exact hlate hl
      · have hcond : same ∧ r.issuer ≠ held.issuer ∨ ¬same ∧ r.issuer < held.issuer := .inr ⟨hsame, hlower⟩
        simp only [hcond, true_and, ne_eq, ite_not]
        rw [hframe]
        rfl
    · rw [if_neg hlower] at hexec
      refine ⟨_, hexec, fun hs => absurd hs hsame, fun _ => countUp_eq _, fun _ hl => absurd hl hlower,
        fun _ hl => absurd hl hlower, fun _ hl => absurd hl hlower, fun _ _ => hpending, fun _ => ⟨rfl, rfl⟩, ?_⟩
      have hcond : ¬(same ∧ r.issuer ≠ held.issuer ∨ ¬same ∧ r.issuer < held.issuer) := by
        rintro (hboth | hboth)
        · exact hsame hboth.1
        · exact hlower hboth.2
      simp only [hcond, false_and, if_false]
      rfl

end Sys2Proof.Machine

/-! ### A BEACON of a peer: the entry, the tests, the adoption (R44 to R49, R62 to R68, R91, R108, R109, R118, R128) -/

namespace Sys2Proof.Machine

open Sys2Proof.Safety

/-! #### The sender's entry (R45 to R48) -/

/-- The presence of the sender at the arrival of its BEACON (R45, R46, R47). -/
def presenceAt (c : Image) (j : Station) (b : BeaconBody) (s : State) : Presence :=
  beaconPresence (b.cyclen.toNat == c.p) (inCurrent s j) (s.roster[j]).presence b.mstate

/-- The entry of the sender after its BEACON (R48). -/
def entryAfter (c : Image) (j : Station) (b : BeaconBody) (s : State) : Entry :=
  ⟨presenceAt c j b s, some b.mstate, b.lock, b.seq, (s.roster[j]).deviation, 0, b.cepoch,
    if b.ppend then some b.pepoch else none, (s.roster[j]).faultOrigin⟩

/-- The station that has received a BEACON and written its sender's entry (R44). -/
def beaconHeard (c : Image) (j : Station) (b : BeaconBody) (s : State) : State :=
  { s with link := Received s.link, roster := putAt s.roster j (entryAfter c j b s) }

theorem rosterBeacon_eq (c : Image) (j : Station) (b : BeaconBody) (s : State) :
    rosterBeacon c j b s = { s with roster := putAt s.roster j (entryAfter c j b s) } := rfl

theorem getElem_putAt_self {α : Type} (v : PerStation α) (j : Station) (x : α) : (putAt v j x)[j] = x :=
  (getElem_putAt v j j x).trans (if_pos rfl)

theorem ext_perStation {α : Type} {v w : PerStation α} (h : ∀ k : Station, v[k] = w[k]) : v = w :=
  Vector.ext fun i hi => h ⟨i, hi⟩

theorem putAt_putAt {α : Type} (v : PerStation α) (j : Station) (x y : α) : putAt (putAt v j x) j y = putAt v j y :=
  ext_perStation fun k => by
    rw [getElem_putAt, getElem_putAt, getElem_putAt]
    split_ifs <;> rfl

/-- A BEACON at its end goes to the blocks in the order given (R44, R81). -/
theorem exec_beacon_atEnd {c : Image} {j : Station} {b : BeaconBody} {order : BeaconOrder} {s : State}
    (h : AtFrameEnd c ⟨j, .beacon b⟩ s) (hj : j ≠ c.station) :
    exec (.beacon j ⟨b, order⟩) s = .next (takeBeacon c j b order { s with link := Received s.link }) :=
  next_configured h.configured (takeFrame_of_peer h hj)

/-- The blocks' work on a BEACON after the roster's, with the resync it brings in its place (R44). -/
theorem beaconFirst_eq (c : Image) (j : Station) (b : BeaconBody) (s : State) :
    beaconFirst c j b { s with link := Received s.link } = relay (presenceAt c j b s) b
      (memberBeacon j (presenceAt c j b s) b (alignBeacon c j (presenceAt c j b s) b (beaconHeard c j b s))) := by
  have hpresence : ((beaconHeard c j b s).roster[j]).presence = presenceAt c j b s :=
    congrArg Entry.presence (getElem_putAt_self s.roster j (entryAfter c j b s))
  rw [← hpresence]
  rfl

theorem resyncFirst_eq (c : Image) (j : Station) (b : BeaconBody) (s : State) :
    resyncFirst c j b { s with link := Received s.link } =
      if resyncCause j (presenceAt c j b s) b (beaconHeard c j b s) then
        alignBeacon c j (presenceAt c j b (resync (beaconHeard c j b s))) b
          (rosterBeacon c j b (resync (beaconHeard c j b s)))
      else beaconFirst c j b { s with link := Received s.link } := by
  have hpresence : ((beaconHeard c j b s).roster[j]).presence = presenceAt c j b s :=
    congrArg Entry.presence (getElem_putAt_self s.roster j (entryAfter c j b s))
  have hagain : ((rosterBeacon c j b (resync (beaconHeard c j b s))).roster[j]).presence =
      presenceAt c j b (resync (beaconHeard c j b s)) :=
    congrArg Entry.presence (getElem_putAt_self _ j (entryAfter c j b (resync (beaconHeard c j b s))))
  rw [← hpresence, ← hagain]
  rfl

/-- A BEACON that is no cause of a resync is taken alike in both orders (R81). -/
theorem takeBeacon_of_no_cause {c : Image} {j : Station} {b : BeaconBody} {s : State} (order : BeaconOrder)
    (h : resyncCause j (presenceAt c j b s) b (beaconHeard c j b s) = false) :
    takeBeacon c j b order { s with link := Received s.link } = beaconFirst c j b { s with link := Received s.link } := by
  cases order
  · rfl
  · rw [takeBeacon, resyncFirst_eq, h]
    rfl

/-! #### The tests for a resync (R108, R109) -/

/-- The tests for a resync read the membership and the plan records alone. -/
theorem resyncCause_congr {s t : State} (hm : t.member = s.member) (hp : t.plan = s.plan) (j : Station)
    (presence : Presence) (b : BeaconBody) : resyncCause j presence b t = resyncCause j presence b s := by
  simp only [resyncCause, staleEpoch, staleTested, mergeYield, foreign, inCurrent, hm, hp]

theorem memberBeacon_of_no_cause {j : Station} {presence : Presence} {b : BeaconBody} {s : State}
    (h : resyncCause j presence b s = false) : memberBeacon j presence b s = s :=
  if_neg (Bool.eq_false_iff.mp h)

/-- A state that makes no test for a resync (R108, R109). -/
theorem resyncCause_quiet {j : Station} {presence : Presence} {b : BeaconBody} {s : State}
    (h : s.member.state = .detached ∨ s.member.state = .listen) : resyncCause j presence b s = false := by
  have htested : staleTested presence b s = false := by rcases h with h | h <;> simp only [staleTested, h]
  have hforeign : foreign j presence b s = false := by rcases h with h | h <;> simp [foreign, h]
  have hstale : staleEpoch presence b s = false := by
    unfold staleEpoch
    split <;> simp [htested]
  simp [resyncCause, hstale, mergeYield, hforeign]

theorem staleEpoch_eq_false_iff (presence : Presence) (b : BeaconBody) (s : State) :
    staleEpoch presence b s = false ↔ ∀ e, s.plan.epoch = some e → newer b.cepoch e = true →
      staleTested presence b s = true → staleExcused s.plan b.cepoch = true := by
  unfold staleEpoch
  cases s.plan.epoch with
  | none => simp
  | some e =>
    simp only [Option.some.injEq, forall_eq']
    cases staleTested presence b s <;> cases newer b.cepoch e <;> cases staleExcused s.plan b.cepoch <;> simp

theorem staleExcused_iff (p : PlanCtl) (cepoch : Epoch) : staleExcused p cepoch = true ↔
    ∃ r, p.pending = some r ∧ (r.epoch = cepoch ∨ newer r.epoch cepoch = true) := by
  unfold staleExcused
  cases p.pending <;> simp

theorem staleTested_iff (presence : Presence) (b : BeaconBody) (s : State) : staleTested presence b s = true ↔
    ((s.member.state = .active ∨ s.member.state = .draining) ∧ presence = .member) ∨
      (s.member.state = .joining ∧ b.mstate = .active ∧ (presence = .member ∨ presence = .heard)) := by
  unfold staleTested
  cases s.member.state <;> simp

theorem foreign_iff (j : Station) (presence : Presence) (b : BeaconBody) (s : State) : foreign j presence b s = true ↔
    s.member.state = .active ∧ b.mstate = .active ∧ presence = .heard ∧ inCurrent s j = false ∧
      ∀ r, s.plan.pending = some r → inSet r.members j = false := by
  unfold foreign
  cases s.plan.pending <;> simp [and_assoc]

/-- No set has a station below the lowest of the empty one (R21, R109). -/
theorem mergeYield_iff (j : Station) (presence : Presence) (b : BeaconBody) (s : State) :
    mergeYield j presence b s = true ↔ foreign j presence b s = true ∧
      ∃ m, s.plan.set = some m ∧ b.lowest.toNat < (lowestOf m).val := by
  unfold mergeYield
  cases s.plan.set with
  | none =>
    have hzero : (lowestOf ((none : Option StationSet).getD 0)).val = 0 := by decide
    rw [hzero]
    simp
  | some m => simp

/-! #### Adoption (R62, R63) -/

/-- The station that has adopted a timebase, before its change of state (R63, R10, R118). -/
def adopting (c : Image) (b : BeaconBody) (s : State) : State :=
  { coarseStep c b s with align := s.align.adopt, plan := { s.plan with epoch := some b.cepoch } }

theorem adopt_in_detached {c : Image} {b : BeaconBody} {s : State} (h : s.member.state = .detached) :
    adopt c b s = adopting c b s :=
  if_neg (by
    change ¬s.member.state = .listen
    rw [h]
    decide)

theorem adopt_in_listen {c : Image} {b : BeaconBody} {s : State} (h : s.member.state = .listen) :
    adopt c b s = { adopting c b s with
      member := s.member.enter .joining, link := { s.link with beaconPoint := none } } := by
  have hjoins : adopt c b s = moveTo .joining (adopting c b s) := if_pos h
  have hnot : (adopting c b s).member.state ≠ .active := by
    change s.member.state ≠ .active
    rw [h]
    decide
  rw [hjoins, moveTo_of_not_active hnot]
  rfl

theorem adopting_entry (c : Image) (b : BeaconBody) (s : State) (k : Station) :
    (adopting c b s).roster[k] = { s.roster[k] with deviation := none } :=
  getElem_tabulate _ _

theorem adoptable_iff (c : Image) (b : BeaconBody) (s : State) : adoptable c b s = true ↔
    s.align.state = .free ∧ (s.member.state = .detached ∨ s.member.state = .listen) ∧ b.mstate = .active ∧
      b.cyclen.toNat = c.p := by
  simp [adoptable, and_assoc]

theorem relay_of_no_pending {presence : Presence} {b : BeaconBody} {s : State} (h : s.plan.pending = none) :
    relay presence b s = s := by
  simp only [relay, h]

/-- A carried epoch is never newer than the one just adopted (R108, R118). -/
theorem newer_self (e : Epoch) : newer e e = false := by
  simp [newer]

/-- A BEACON that has just been adopted is no cause of a resync (R108, R109). -/
theorem resyncCause_adopted {j : Station} {presence : Presence} {b : BeaconBody} {s : State}
    (he : s.plan.epoch = some b.cepoch) (hm : s.member.state ≠ .active) : resyncCause j presence b s = false := by
  have hstale : staleEpoch presence b s = false := by
    rw [staleEpoch_eq_false_iff]
    intro e hepoch hnewer
    rw [he, Option.some.injEq] at hepoch
    rw [← hepoch, newer_self] at hnewer
    cases hnewer
  have hmerge : mergeYield j presence b s = false := by
    rw [← Bool.not_eq_true, mergeYield_iff, foreign_iff]
    exact fun hboth => hm hboth.1.1
  rw [resyncCause, hstale, hmerge]
  rfl

/-- Settles O34. -/
theorem activeBeaconIsAdopted : Obligations.ActiveBeaconIsAdopted := by
  intro c s j b order h hj hfree hm hactive hperiod hpending x
  have hquiet : resyncCause j (presenceAt c j b s) b (beaconHeard c j b s) = false := resyncCause_quiet hm
  have hadopts : alignBeacon c j (presenceAt c j b s) b (beaconHeard c j b s) = adopt c b (beaconHeard c j b s) :=
    if_pos ((adoptable_iff c b (beaconHeard c j b s)).mpr ⟨hfree, hm, hactive, hperiod⟩)
  have hfields : (adopt c b (beaconHeard c j b s)).plan = { s.plan with epoch := some b.cepoch } ∧
      (adopt c b (beaconHeard c j b s)).member.state ≠ .active := by
    rcases hm with hm | hm
    · rw [adopt_in_detached (s := beaconHeard c j b s) hm]
      exact ⟨rfl, by change s.member.state ≠ .active; rw [hm]; decide⟩
    · rw [adopt_in_listen (s := beaconHeard c j b s) hm]
      exact ⟨rfl, by simp [Member.enter]⟩
  obtain ⟨hplan, hstate⟩ := hfields
  have htake : takeBeacon c j b order { s with link := Received s.link } = adopt c b (beaconHeard c j b s) := by
    rw [takeBeacon_of_no_cause order hquiet, beaconFirst_eq, hadopts,
      memberBeacon_of_no_cause (resyncCause_adopted (by rw [hplan]) hstate),
      relay_of_no_pending (by rw [hplan]; exact hpending)]
  have hother : ∀ k : Station, k ≠ j →
      (adopting c b (beaconHeard c j b s)).roster[k] = { s.roster[k] with deviation := none } := fun k hk => by
    have hkeep : (beaconHeard c j b s).roster[k] = s.roster[k] := (getElem_putAt _ _ _ _).trans (if_neg hk)
    rw [adopting_entry, hkeep]
  have hpresence : presenceAt c j b s = if inCurrent s j then
      (if (s.roster[j]).presence = .departed then .departed else .member) else .heard := by
    have hsame : (b.cyclen.toNat == c.p) = true := beq_iff_eq.mpr hperiod
    rw [presenceAt, hsame, hactive]
    cases inCurrent s j <;> cases (s.roster[j]).presence <;> rfl
  have hsender : (adopting c b (beaconHeard c j b s)).roster[j] =
      ⟨if inCurrent s j then (if (s.roster[j]).presence = .departed then .departed else .member) else .heard,
        some .active, b.lock, b.seq, none, 0, b.cepoch, if b.ppend then some b.pepoch else none,
        (s.roster[j]).faultOrigin⟩ := by
    have hentry : (beaconHeard c j b s).roster[j] = entryAfter c j b s := getElem_putAt_self _ _ _
    rw [adopting_entry, hentry, ← hpresence, ← hactive]
    rfl
  refine ⟨adopt c b (beaconHeard c j b s), (exec_beacon_atEnd h hj).trans (congrArg _ htake), ?_⟩
  rcases hm with hm | hm
  · have hlisten : ¬s.member.state = .listen := by
      rw [hm]
      decide
    rw [adopt_in_detached (s := beaconHeard c j b s) hm, if_neg hlisten]
    exact ⟨rfl, rfl, getElem_tableReset, hother, hsender, rfl, fun _ => rfl, fun hl => absurd hl hlisten, rfl, rfl, rfl⟩
  · have hdetached : ¬s.member.state = .detached := by
      rw [hm]
      decide
    rw [adopt_in_listen (s := beaconHeard c j b s) hm, if_pos hm]
    exact ⟨rfl, rfl, getElem_tableReset, hother, hsender, rfl, fun hd => absurd hd hdetached, fun _ => rfl, rfl, rfl, rfl⟩

end Sys2Proof.Machine

/-! ### Measurement, relay and resync at a BEACON (R65 to R69, R81, R106 to R108, R128) -/

namespace Sys2Proof.Machine

open Sys2Proof.Safety

/-! #### Measurement (R65 to R68) -/

theorem isReference_iff (presence : Presence) (b : BeaconBody) (s : State) : isReference presence b s = true ↔
    (s.plan.set ≠ none ∧ presence = .member) ∨ (s.plan.set = none ∧ presence = .heard ∧ b.mstate = .active) := by
  unfold isReference
  cases s.plan.set <;> simp

/-- A sender that is no reference sender, or a station without a timebase, gives no measurement (R65). -/
theorem measure_none {c : Image} {j : Station} {presence : Presence} {b : BeaconBody} {s : State}
    (h : s.align.state = .free ∨ isReference presence b s = false) : measure c j presence b s = s := by
  have hno : (hasTimebase s && isReference presence b s) = false := by
    rcases h with h | h
    · simp [hasTimebase, h]
    · simp [h]
  unfold measure
  split
  · rfl
  · rw [hno]
    rfl

theorem measure_reference {c : Image} {j : Station} {presence : Presence} {b : BeaconBody} {s : State} {cap : TimePair}
    (hcap : s.timer.capture = some cap) (hbase : s.align.state ≠ .free) (href : isReference presence b s = true) :
    measure c j presence b s = if usable c (deviationOf c cap b.seq b.stamp.toNat) then
      takeUsable j (deviationOf c cap b.seq b.stamp.toNat) s else takeOutlier s := by
  simp only [measure, hcap, (hasTimebase_iff s).mpr hbase, href, Bool.true_and, if_true]

theorem usable_iff (c : Image) (d : Int) : usable c d = true ↔ 2 * d.natAbs < c.p := by
  simp [usable]

/-- A station with a timebase measures a BEACON and does not adopt it (R62, R65). -/
theorem alignBeacon_of_timebase {c : Image} {j : Station} {presence : Presence} {b : BeaconBody} {s : State}
    (h : s.align.state ≠ .free) : alignBeacon c j presence b s = measure c j presence b s :=
  if_neg fun hadopt => h ((adoptable_iff c b s).mp hadopt).1

/-- The station after a usable deviation of the sender (R67). -/
def measuredState (c : Image) (j : Station) (b : BeaconBody) (d : Int) (s : State) : State :=
  { s with
    link := Received s.link
    roster := putAt s.roster j { entryAfter c j b s with deviation := some d }
    align := { s.align with table := putAt s.align.table j (some d), outlierStreak := 0 } }

theorem takeUsable_beaconHeard (c : Image) (j : Station) (b : BeaconBody) (d : Int) (s : State) :
    takeUsable j d (beaconHeard c j b s) = measuredState c j b d s := by
  have hentry : (beaconHeard c j b s).roster[j] = entryAfter c j b s := getElem_putAt_self _ _ _
  have htake : takeUsable j d (beaconHeard c j b s) = { measuredState c j b d s with
      roster := putAt (putAt s.roster j (entryAfter c j b s)) j
        { (beaconHeard c j b s).roster[j] with deviation := some d } } := rfl
  rw [htake, hentry, putAt_putAt]
  rfl

/-! #### Relay (R128) -/

theorem lacksPlan_iff (r : PlanRecord) (presence : Presence) (b : BeaconBody) : lacksPlan r presence b = true ↔
    presence = .member ∧ newer r.epoch b.cepoch = true ∧ (b.ppend = false ∨ newer r.epoch b.pepoch = true) := by
  simp [lacksPlan, older, and_assoc]

/-- The conditions of a relay (R128). -/
def Relays (presence : Presence) (b : BeaconBody) (s : State) (r : PlanRecord) : Prop :=
  s.plan.pending = some r ∧ (s.member.state = .active ∨ s.member.state = .draining) ∧ presence = .member ∧
    s.plan.relay = false ∧ newer r.epoch b.cepoch = true ∧ (b.ppend = false ∨ newer r.epoch b.pepoch = true)

theorem relay_due {presence : Presence} {b : BeaconBody} {s : State} {r : PlanRecord} (h : Relays presence b s r) :
    relay presence b s = { s with link := s.link.requestPlan r, plan := { s.plan with relay := true } } := by
  obtain ⟨hr, hm, hp, hfree, hnewer, hlacks⟩ := h
  have hgroup := (inGroup_iff _).mpr hm
  have hplan := (lacksPlan_iff r presence b).mpr ⟨hp, hnewer, hlacks⟩
  simp [relay, hr, hgroup, hplan, hfree]

theorem relay_none {presence : Presence} {b : BeaconBody} {s : State} (h : ∀ r, ¬Relays presence b s r) :
    relay presence b s = s := by
  unfold relay
  split
  · rfl
  · rename_i r hr
    refine if_neg fun hall => h r ?_
    simp only [Bool.and_eq_true, inGroup_iff, lacksPlan_iff, Bool.not_eq_true'] at hall
    obtain ⟨⟨hm, hp, hnewer, hlacks⟩, hfree⟩ := hall
    exact ⟨hr, hm, hp, hfree, hnewer, hlacks⟩

/-- A relay fills the PLAN slot and sets its flag, and does nothing else (R128). -/
theorem relay_frame (presence : Presence) (b : BeaconBody) (s : State) :
    relay presence b s = { s with
        link := (relay presence b s).link
        plan := { s.plan with relay := (relay presence b s).plan.relay } } ∧
      (relay presence b s).link.rx = s.link.rx ∧ (relay presence b s).link.qFault = s.link.qFault := by
  by_cases h : ∃ r, Relays presence b s r
  · obtain ⟨r, hr⟩ := h
    rw [relay_due hr]
    exact ⟨rfl, requestPlan_rx _ _, requestPlan_qFault _ _⟩
  · rw [relay_none (not_exists.mp h)]
    exact ⟨rfl, rfl, rfl⟩

/-! #### A reference sender that asks for no resync -/

theorem inCurrent_of_set_none {s : State} (h : s.plan.set = none) (j : Station) : inCurrent s j = false := by
  simp only [inCurrent, h]

/-- What the statements put on a reference sender (R65): a MEMBER, or an ACTIVE sender heard by a station without a
set. -/
structure FromReference (c : Image) (j : Station) (b : BeaconBody) (s : State) : Prop where
  period : b.cyclen.toNat = c.p
  sender : (inCurrent s j = true ∧ (s.roster[j]).presence ≠ .departed ∧
      (b.mstate = .active ∨ (b.mstate = .joining ∧ (s.roster[j]).presence ≠ .silent))) ∨
    (s.plan.set = none ∧ b.mstate = .active)
  excused : ∀ e, s.plan.epoch = some e → newer b.cepoch e = true →
    (∃ r, s.plan.pending = some r ∧ (r.epoch = b.cepoch ∨ newer r.epoch b.cepoch = true)) ∨
      ¬(s.member.state = .active ∨ s.member.state = .draining ∨ (s.member.state = .joining ∧ b.mstate = .active))

theorem presenceAt_of_period {c : Image} {b : BeaconBody} (h : b.cyclen.toNat = c.p) (j : Station) (s : State) :
    presenceAt c j b s = if inCurrent s j then memberPresence (s.roster[j]).presence b.mstate else .heard := by
  have hsame : (b.cyclen.toNat == c.p) = true := beq_iff_eq.mpr h
  rw [presenceAt, hsame]
  rfl

theorem memberPresence_of_reference {p : Presence} {m : Reported} (hdeparted : p ≠ .departed)
    (h : m = .active ∨ (m = .joining ∧ p ≠ .silent)) : memberPresence p m = .member := by
  rcases h with rfl | ⟨rfl, hsilent⟩
  · cases p <;> first | rfl | exact absurd rfl hdeparted
  · cases p <;> first | rfl | exact absurd rfl hdeparted | exact absurd rfl hsilent

theorem FromReference.presence {c : Image} {j : Station} {b : BeaconBody} {s : State} (h : FromReference c j b s) :
    presenceAt c j b s = if inCurrent s j then .member else .heard := by
  rw [presenceAt_of_period h.period]
  rcases h.sender with ⟨hin, hdeparted, hstate⟩ | ⟨hnone, -⟩
  · rw [hin, memberPresence_of_reference hdeparted hstate]
  · rw [inCurrent_of_set_none hnone]
    rfl

theorem FromReference.isReference {c : Image} {j : Station} {b : BeaconBody} {s t : State} (h : FromReference c j b s)
    (hplan : t.plan = s.plan) : Machine.isReference (presenceAt c j b s) b t = true := by
  rw [isReference_iff, hplan, h.presence]
  rcases h.sender with ⟨hin, -, -⟩ | ⟨hnone, hactive⟩
  · refine .inl ⟨fun hnone => ?_, by rw [hin]; rfl⟩
    rw [inCurrent_of_set_none hnone] at hin
    cases hin
  · exact .inr ⟨hnone, by rw [inCurrent_of_set_none hnone]; rfl, hactive⟩

theorem FromReference.no_cause {c : Image} {j : Station} {b : BeaconBody} {s t : State} (h : FromReference c j b s)
    (hmember : t.member = s.member) (hplan : t.plan = s.plan) : resyncCause j (presenceAt c j b s) b t = false := by
  have hstale : staleEpoch (presenceAt c j b s) b t = false := by
    rw [staleEpoch_eq_false_iff, hplan]
    intro e he hnewer htested
    rw [staleTested_iff, hmember] at htested
    rw [staleExcused_iff]
    refine (h.excused e he hnewer).resolve_right (not_not.mpr ?_)
    rcases htested with ⟨hm, -⟩ | ⟨hm, hactive, -⟩
    · exact hm.elim .inl fun hd => .inr (.inl hd)
    · exact .inr (.inr ⟨hm, hactive⟩)
  have hmerge : mergeYield j (presenceAt c j b s) b t = false := by
    rw [← Bool.not_eq_true, mergeYield_iff, foreign_iff, hplan, h.presence]
    rintro ⟨⟨-, -, hheard, -, -⟩, m, hset, -⟩
    rcases h.sender with ⟨hin, -, -⟩ | ⟨hnone, -⟩
    · rw [hin] at hheard
      cases hheard
    · rw [hnone] at hset
      cases hset
  rw [resyncCause, hstale, hmerge]
  rfl

/-- A BEACON of a reference sender is measured in either order, and then a member that lacks the pending plan is sent
it (R44, R65, R128). -/
theorem FromReference.takeBeacon {c : Image} {j : Station} {b : BeaconBody} {s u : State} (h : FromReference c j b s)
    (hbase : s.align.state ≠ .free) (order : BeaconOrder)
    (hmeasure : measure c j (presenceAt c j b s) b (beaconHeard c j b s) = u)
    (hquiet : resyncCause j (presenceAt c j b s) b u = false) :
    Machine.takeBeacon c j b order { s with link := Received s.link } = relay (presenceAt c j b s) b u := by
  rw [takeBeacon_of_no_cause order (h.no_cause rfl rfl), beaconFirst_eq,
    alignBeacon_of_timebase (s := beaconHeard c j b s) hbase, hmeasure, memberBeacon_of_no_cause hquiet]

theorem requestPlan_tx {l : Link} (h : l.tx = .idle ∨ l.tx = .defer) (r : PlanRecord) : (l.requestPlan r).tx = .defer :=
  (settleTx_tx_of_waiting (l := { l.loseSlot .plan with qPlan := some ⟨r, 0⟩ }) (by simp [Link.waiting])).1 h

/-- A usable deviation of a reference sender is measured (R67). -/
theorem exec_beacon_measured (c : Image) (s : State) (j : Station) (b : BeaconBody) (order : BeaconOrder)
    (cap : TimePair) (h : AtFrameEnd c ⟨j, .beacon b⟩ s) (hj : j ≠ c.station) (href : FromReference c j b s)
    (hbase : s.align.state ≠ .free) (hcap : s.timer.capture = some cap)
    (husable : usable c (deviationOf c cap b.seq b.stamp.toNat) = true) :
    exec (.beacon j ⟨b, order⟩) s = .next (relay (presenceAt c j b s) b
      (measuredState c j b (deviationOf c cap b.seq b.stamp.toNat) s)) := by
  have hmeasure : measure c j (presenceAt c j b s) b (beaconHeard c j b s) =
      measuredState c j b (deviationOf c cap b.seq b.stamp.toNat) s := by
    rw [measure_reference (s := beaconHeard c j b s) hcap hbase (href.isReference rfl), if_pos husable,
      takeUsable_beaconHeard]
  exact (exec_beacon_atEnd h hj).trans (congrArg _ (href.takeBeacon hbase order hmeasure (href.no_cause rfl rfl)))

/-! #### A sender that is no reference sender -/

/-- The presence at arrival, by the tables of R45 to R47. -/
theorem presenceAt_eq (c : Image) (j : Station) (b : BeaconBody) (s : State) : presenceAt c j b s =
    if b.cyclen.toNat ≠ c.p then .excluded
    else if inCurrent s j = false then .heard
    else match b.mstate with
      | .active => if (s.roster[j]).presence = .departed then .departed else .member
      | .joining => if (s.roster[j]).presence = .departed then .departed
          else if (s.roster[j]).presence = .silent then .silent else .member
      | .draining => .departed := by
  by_cases hperiod : b.cyclen.toNat = c.p
  · rw [presenceAt_of_period hperiod, if_neg (not_not.mpr hperiod)]
    cases inCurrent s j
    · rfl
    · cases b.mstate <;> cases (s.roster[j]).presence <;> rfl
  · have hother : (b.cyclen.toNat == c.p) = false := beq_false_of_ne hperiod
    rw [presenceAt, hother, if_pos hperiod]
    rfl

/-- A sender is a MEMBER of a current set alone (R43, R46). -/
theorem set_of_presenceAt_member {c : Image} {j : Station} {b : BeaconBody} {s : State}
    (h : presenceAt c j b s = .member) : s.plan.set ≠ none := fun hnone => by
  rw [presenceAt, inCurrent_of_set_none hnone] at h
  cases hperiod : b.cyclen.toNat == c.p <;> rw [hperiod] at h <;> cases h

/-- Settles O35: the two halves are a BEACON that is measured and one that is recorded alone. -/
theorem referenceBeaconIsMeasured : Obligations.ReferenceBeaconIsMeasured := by
  constructor
  · intro c s j b order cap h hj hbase hcap hperiod hexcused hsender raw ds d husable entry relays measured
    have href : FromReference c j b s := ⟨hperiod, hsender, hexcused⟩
    have hexec := exec_beacon_measured c s j b order cap h hj href hbase hcap ((usable_iff c _).mpr husable)
    have hmeasured : measuredState c j b (deviationOf c cap b.seq b.stamp.toNat) s = measured := by
      unfold measuredState entryAfter
      rw [href.presence]
      rfl
    have hrelays : ∀ r, Relays (presenceAt c j b s) b measured r ↔ relays r := fun r => by
      have hmember : presenceAt c j b s = .member ↔ inCurrent s j = true := by
        rw [href.presence]
        cases inCurrent s j <;> simp
      unfold Relays
      rw [hmember]
      exact ⟨fun ⟨hr, hm, hin, hrest⟩ => ⟨hr, hin, hm, hrest⟩, fun ⟨hr, hin, hm, hrest⟩ => ⟨hr, hm, hin, hrest⟩⟩
    rw [hmeasured] at hexec
    refine ⟨fun hnone => ?_, fun r hr => ?_⟩
    · rw [hexec, relay_none fun r hr => hnone r ((hrelays r).mp hr)]
    · rw [relay_due ((hrelays r).mpr hr)] at hexec
      exact ⟨_, hexec, rfl, requestPlan_qPlan _ _, requestPlan_qFault _ _, requestPlan_qLeave _ _,
        requestPlan_qBeacon _ _, requestPlan_rx _ _, requestPlan_beaconPoint _ _, fun htx =>
          requestPlan_tx (l := Received s.link) htx r⟩
  · intro c s j b order h hj member presence wasIn reference adopted tested excused yields hwhere hadopted hyields hstale
    have hpresence : presenceAt c j b s = presence := presenceAt_eq c j b s
    have hquiet : resyncCause j presence b (beaconHeard c j b s) = false := by
      have hepoch : staleEpoch presence b (beaconHeard c j b s) = false :=
        (staleEpoch_eq_false_iff _ _ _).mpr fun e he hnewer htested =>
          (staleExcused_iff _ _).mpr (hstale e he hnewer ((staleTested_iff _ _ _).mp htested))
      have hmerge : mergeYield j presence b (beaconHeard c j b s) = false := by
        rw [← Bool.not_eq_true, mergeYield_iff, foreign_iff]
        rintro ⟨⟨hm, hactive, hheard, hout, hpending⟩, hset⟩
        exact hyields ⟨hm, hactive, hheard, hout, hset, hpending⟩
      rw [resyncCause, hepoch, hmerge]
      rfl
    have halign : alignBeacon c j presence b (beaconHeard c j b s) = beaconHeard c j b s := by
      have hnot : ¬adoptable c b (beaconHeard c j b s) = true := mt (adoptable_iff c b _).mp hadopted
      refine (if_neg hnot).trans (measure_none ?_)
      rcases hwhere with ⟨hfree, -⟩ | ⟨-, hother⟩
      · exact .inl hfree
      · exact .inr (Bool.eq_false_iff.mpr (mt (isReference_iff presence b (beaconHeard c j b s)).mp hother))
    have hrelay : relay presence b (beaconHeard c j b s) = beaconHeard c j b s := relay_none fun r hr => by
      obtain ⟨-, hm, hp, -⟩ := hr
      rcases hwhere with ⟨-, hout⟩ | ⟨-, hother⟩
      · exact hout hm
      · exact hother (.inl ⟨set_of_presenceAt_member (hpresence.trans hp), hp⟩)
    rw [exec_beacon_atEnd h hj, takeBeacon_of_no_cause order (by rw [hpresence]; exact hquiet), beaconFirst_eq, hpresence,
      halign, memberBeacon_of_no_cause hquiet, hrelay, beaconHeard, entryAfter, hpresence]

end Sys2Proof.Machine

/-! ### The resync of a BEACON (R68, R69, R81, R106 to R109) -/

namespace Sys2Proof.Machine

open Sys2Proof.Safety

/-- The queue of a resync (R106). -/
def Link.resynced (l : Link) (m : Membership) : Link :=
  (if inGroup m then l.requestLeave .resync else l).withdrawFor .listen

theorem resynced_fields (l : Link) (m : Membership) :
    (l.resynced m).qLeave = (if m = .active ∨ m = .draining then some ⟨.resync, 0⟩ else l.qLeave) ∧
      (l.resynced m).qBeacon = none ∧ (l.resynced m).qPlan = none ∧ (l.resynced m).qFault = l.qFault ∧
      (l.resynced m).rx = l.rx := by
  by_cases hm : m = .active ∨ m = .draining
  · simp [Link.resynced, (inGroup_iff m).mpr hm, hm, withdrawFor_qBeacon, withdrawFor_qPlan]
  · simp [Link.resynced, Bool.eq_false_iff.mpr (mt (inGroup_iff m).mp hm), hm, withdrawFor_qBeacon, withdrawFor_qPlan]

theorem link_if (P : Prop) [Decidable P] (l : Link) (s : State) :
    (if P then { s with link := l } else s) = { s with link := if P then l else s.link } := by
  split_ifs <;> rfl

theorem raise_if (P : Prop) [Decidable P] (e : Event) (s : State) :
    (if P then raise e s else s) = { s with port := if P then s.port.raise e else s.port } := by
  split_ifs <;> rfl

/-- Everything that a resync does (R106, R81). -/
theorem resync_eq (s : State) : resync s = { s with
    link := s.link.resynced s.member.state
    roster := rosterReset
    plan := s.plan.clear
    align := s.align.toFree
    member := s.member.enter .listen
    gen := if s.member.state = .active then s.gen.leaveActive else s.gen
    port := (if s.align.state = .locked then s.port.raise .lockLost else s.port).raise .resync } := by
  have hplan : (if s.member.state = .active then s.plan.clear.leaveActive else s.plan.clear) = s.plan.clear := by
    split_ifs <;> rfl
  unfold resync Link.resynced
  dsimp only
  rw [link_if, raise_if, moveTo]
  dsimp only
  rw [hplan]
  rfl

theorem resync_flags (p : Port) (locked : Prop) [Decidable locked] :
    ((if locked then p.raise .lockLost else p).raise .resync).flags =
      p.flags ||| (if locked then 0x0880#16 else 0x0800#16) := by
  split_ifs
  · exact BitVec.or_assoc _ _ _
  · rfl

theorem getElem_rosterReset (k : Station) : rosterReset[k] = Entry.cleared := by
  simp [rosterReset]

/-- A station that has just resynced tests no BEACON and relays none (R106, R108, R128). -/
theorem relay_memberBeacon_resync (j : Station) (presence : Presence) (b : BeaconBody) (s : State) :
    relay presence b (memberBeacon j presence b (resync s)) = resync s := by
  have hquiet : resyncCause j presence b (resync s) = false := resyncCause_quiet (by rw [resync_eq]; exact .inr rfl)
  rw [memberBeacon_of_no_cause hquiet, relay_of_no_pending (by rw [resync_eq]; rfl)]

/-! #### Outliers (R68, R69, R107) -/

/-- The alignment records with one more outlier (R68). -/
def Align.countOutlier (a : Align) : Align :=
  { a with outliers := countUp a.outliers, outlierStreak := min (a.outlierStreak + 1) 3 }

theorem resyncState_iff (m : Membership) :
    resyncState m = true ↔ (m = .active ∨ m = .draining) ∨ m = .joining := by
  cases m <;> decide

theorem takeOutlier_stays {s : State} (h : s.align.outlierStreak < 2 ∨ resyncState s.member.state = false) :
    takeOutlier s = { s with align := s.align.countOutlier } :=
  if_neg fun hboth => by
    obtain ⟨hthree, hstate⟩ := hboth
    rcases h with h | h
    · change min (s.align.outlierStreak + 1) 3 = 3 at hthree
      omega
    · rw [show resyncState s.member.state = true from hstate] at h
      cases h

theorem takeOutlier_resyncs {s : State} (h : 2 ≤ s.align.outlierStreak) (hstate : resyncState s.member.state = true) :
    takeOutlier s = resync { s with align := s.align.countOutlier } :=
  if_pos ⟨by change min (s.align.outlierStreak + 1) 3 = 3; omega, hstate⟩

/-- Settles O36. -/
theorem thirdOutlierResyncs : Obligations.ThirdOutlierResyncs := by
  intro c s j b order cap h hj hbase hcap hperiod hexcused hsender raw ds d hout wasIn outliers
  have href : FromReference c j b s := ⟨hperiod, hsender, hexcused⟩
  have hunusable : usable c d = false := by
    rw [← Bool.not_eq_true, usable_iff]
    omega
  have hmeasure : measure c j (presenceAt c j b s) b (beaconHeard c j b s) = takeOutlier (beaconHeard c j b s) := by
    rw [measure_reference (s := beaconHeard c j b s) hcap hbase (href.isReference rfl)]
    exact if_neg (Bool.eq_false_iff.mp hunusable)
  have hentry : entryAfter c j b s = ⟨if inCurrent s j then .member else .heard, some b.mstate, b.lock, b.seq,
      (s.roster[j]).deviation, 0, b.cepoch, if b.ppend then some b.pepoch else none, (s.roster[j]).faultOrigin⟩ := by
    rw [entryAfter, href.presence]
  have hcount : countUp s.align.outliers = outliers := countUp_eq _
  by_cases hresync : 2 ≤ s.align.outlierStreak ∧ (wasIn ∨ s.member.state = .joining)
  · obtain ⟨hstreak, hstate⟩ := hresync
    have htake : takeOutlier (beaconHeard c j b s) =
        resync { beaconHeard c j b s with align := s.align.countOutlier } :=
      takeOutlier_resyncs (s := beaconHeard c j b s) hstreak ((resyncState_iff _).mpr hstate)
    have hbeacon := href.takeBeacon hbase order (hmeasure.trans htake)
      (resyncCause_quiet (by rw [resync_eq]; exact .inr rfl))
    rw [relay_of_no_pending (by rw [resync_eq]; rfl)] at hbeacon
    refine ⟨_, (exec_beacon_atEnd h hj).trans (congrArg _ hbeacon), ?_⟩
    obtain ⟨hleave, hbeaconSlot, hplanSlot, hfault, hrx⟩ := resynced_fields (Received s.link) s.member.state
    rw [resync_eq]
    refine ⟨hrx, hfault, fun hno => ?_, fun _ _ => ⟨rfl, ?_, fun k => ⟨getElem_rosterReset k, getElem_tableReset k⟩, rfl,
      ?_, hbeaconSlot, hplanSlot, resync_flags s.port _, rfl, rfl⟩⟩
    · rcases hno with hno | hno
      · omega
      · exact absurd hstate hno
    · rw [← hcount]
      rfl
    · exact hleave
  · have hstays : s.align.outlierStreak < 2 ∨ resyncState s.member.state = false := by
      by_cases hstreak : s.align.outlierStreak < 2
      · exact .inl hstreak
      · exact .inr (Bool.eq_false_iff.mpr fun hstate =>
          hresync ⟨Nat.not_lt.mp hstreak, (resyncState_iff _).mp hstate⟩)
    have htake := takeOutlier_stays (s := beaconHeard c j b s) hstays
    have hbeacon := href.takeBeacon hbase order (hmeasure.trans htake) (href.no_cause rfl rfl)
    refine ⟨_, (exec_beacon_atEnd h hj).trans (congrArg _ hbeacon), ?_⟩
    obtain ⟨hframe, hrx, hfault⟩ := relay_frame (presenceAt c j b s) b
      { beaconHeard c j b s with align := (beaconHeard c j b s).align.countOutlier }
    refine ⟨hrx, hfault, fun _ => ⟨?_, ?_, ?_⟩, fun hstreak hstate => absurd ⟨hstreak, hstate⟩ hresync⟩
    · rw [hframe, ← hcount]
      rfl
    · rw [hframe, ← hentry]
      rfl
    · rw [hframe]
      rfl

/-! #### Stale epoch and merge (R108, R109) -/

/-- The causes of a resync that the statement names: a stale epoch seen by a member of a group or by a joiner, or a
foreign member with a lower LOWEST. -/
theorem resyncCause_of_stale_or_foreign {c : Image} {j : Station} {b : BeaconBody} {s t : State} {e : Epoch}
    (hperiod : b.cyclen.toNat = c.p) (he : s.plan.epoch = some e) (hmember : t.member = s.member) (hplan : t.plan = s.plan)
    (h : ((s.member.state = .active ∨ s.member.state = .draining) ∧ inCurrent s j = true ∧
        (s.roster[j]).presence ≠ .departed ∧
        (b.mstate = .active ∨ (b.mstate = .joining ∧ (s.roster[j]).presence ≠ .silent)) ∧ newer b.cepoch e = true ∧
        ∀ r, s.plan.pending = some r → r.epoch ≠ b.cepoch ∧ newer r.epoch b.cepoch = false) ∨
      (s.member.state = .joining ∧ b.mstate = .active ∧ (inCurrent s j = true → (s.roster[j]).presence ≠ .departed) ∧
        newer b.cepoch e = true ∧
        ∀ r, s.plan.pending = some r → r.epoch ≠ b.cepoch ∧ newer r.epoch b.cepoch = false) ∨
      (s.member.state = .active ∧ b.mstate = .active ∧ inCurrent s j = false ∧
        (∃ m, s.plan.set = some m ∧ b.lowest.toNat < (lowestOf m).val) ∧
        ∀ r, s.plan.pending = some r → inSet r.members j = false)) :
    resyncCause j (presenceAt c j b s) b t = true := by
  have hstale : newer b.cepoch e = true → staleTested (presenceAt c j b s) b s = true →
      (∀ r, s.plan.pending = some r → r.epoch ≠ b.cepoch ∧ newer r.epoch b.cepoch = false) →
      resyncCause j (presenceAt c j b s) b s = true := fun hnewer htested hpending => by
    have hstale : staleEpoch (presenceAt c j b s) b s = true := by
      rw [← Bool.not_eq_false, staleEpoch_eq_false_iff]
      intro hall
      obtain ⟨r, hr, hexcuses⟩ := (staleExcused_iff _ _).mp (hall e he hnewer htested)
      obtain ⟨hne, hnot⟩ := hpending r hr
      rcases hexcuses with heq | hnewer'
      · exact hne heq
      · rw [hnot] at hnewer'
        cases hnewer'
    rw [resyncCause, hstale, Bool.true_or]
  rw [resyncCause_congr hmember hplan]
  rcases h with ⟨hm, hin, hdeparted, hstate, hnewer, hpending⟩ | ⟨hm, hactive, hdeparted, hnewer, hpending⟩ |
    ⟨hm, hactive, hout, hlower, hpending⟩
  · refine hstale hnewer ((staleTested_iff _ _ _).mpr (.inl ⟨hm, ?_⟩)) hpending
    rw [presenceAt_of_period hperiod, hin, memberPresence_of_reference hdeparted hstate]
    rfl
  · refine hstale hnewer ((staleTested_iff _ _ _).mpr (.inr ⟨hm, hactive, ?_⟩)) hpending
    rw [presenceAt_of_period hperiod]
    cases hin : inCurrent s j
    · exact .inr rfl
    · exact .inl (memberPresence_of_reference (hdeparted hin) (.inl hactive))
  · have hheard : presenceAt c j b s = .heard := by
      rw [presenceAt_of_period hperiod, hout]
      rfl
    have hmerge : mergeYield j (presenceAt c j b s) b s = true :=
      (mergeYield_iff _ _ _ _).mpr ⟨(foreign_iff _ _ _ _).mpr ⟨hm, hactive, hheard, hout, hpending⟩, hlower⟩
    rw [resyncCause, hmerge, Bool.or_true]

/-- A measurement that finds no outlier leaves all but the roster and the deviation records (R67). -/
theorem measure_frame {c : Image} {j : Station} {presence : Presence} {b : BeaconBody} {s : State} {cap : TimePair}
    (hcap : s.timer.capture = some cap) (hbase : s.align.state ≠ .free)
    (h : usable c (deviationOf c cap b.seq b.stamp.toNat) = true ∨ isReference presence b s = false) :
    measure c j presence b s = { s with
        roster := (measure c j presence b s).roster, align := (measure c j presence b s).align } ∧
      (measure c j presence b s).align.state = s.align.state := by
  cases href : isReference presence b s
  · rw [measure_none (.inr href)]
    exact ⟨rfl, rfl⟩
  · have husable := h.resolve_right (by rw [href]; decide)
    rw [measure_reference hcap hbase href, if_pos husable]
    exact ⟨rfl, rfl⟩

/-- The entry of a sender that a station hears first after a resync (R47, R106). -/
theorem entryAfter_resync {c : Image} {b : BeaconBody} (hperiod : b.cyclen.toNat = c.p) (j : Station) (s : State) :
    entryAfter c j b (resync s) = ⟨.heard, some b.mstate, b.lock, b.seq, none, 0, b.cepoch,
      if b.ppend then some b.pepoch else none, none⟩ := by
  have hcleared : (resync s).roster[j] = Entry.cleared := by
    simp only [resync_eq]
    exact getElem_rosterReset j
  have hout : inCurrent (resync s) j = false := inCurrent_of_set_none (by rw [resync_eq]; rfl) j
  rw [entryAfter, presenceAt_of_period hperiod, hout, hcleared]
  rfl

/-- Settles O37. -/
theorem staleEpochOrMergeResyncs : Obligations.StaleEpochOrMergeResyncs := by
  intro c s j b e cap h hj hperiod he hcap hbase raw ds d wasIn hmeasures hcause resynced listening heard
  have hcauses : ∀ t : State, t.member = s.member → t.plan = s.plan →
      resyncCause j (presenceAt c j b s) b t = true := fun t hmember hplan =>
    resyncCause_of_stale_or_foreign hperiod he hmember hplan hcause
  obtain ⟨hleave, hbeacon, hplanSlot, hfault, hrx⟩ := resynced_fields (Received s.link) s.member.state
  obtain ⟨u, hu⟩ : ∃ u, u = measure c j (presenceAt c j b s) b (beaconHeard c j b s) := ⟨_, rfl⟩
  have hmeasured : usable c d = true ∨ isReference (presenceAt c j b s) b (beaconHeard c j b s) = false := by
    refine hmeasures.imp (usable_iff c d).mpr fun ⟨m, hset, hout⟩ => ?_
    have hheard : presenceAt c j b s = .heard := by
      rw [presenceAt_of_period hperiod, if_neg]
      simp [inCurrent, hset, hout]
    rw [← Bool.not_eq_true, isReference_iff, hheard]
    rintro (⟨-, hmember⟩ | ⟨hnone, -⟩)
    · cases hmember
    · rw [show s.plan.set = none from hnone] at hset
      cases hset
  obtain ⟨hframe, hstate⟩ := measure_frame (s := beaconHeard c j b s) hcap hbase hmeasured
  rw [← hu] at hframe hstate
  have hfirst : takeBeacon c j b .beaconFirst { s with link := Received s.link } = resync u := by
    have hresyncs : memberBeacon j (presenceAt c j b s) b u = resync u :=
      if_pos (hcauses u (by rw [hframe]; rfl) (by rw [hframe]; rfl))
    rw [takeBeacon, beaconFirst_eq, alignBeacon_of_timebase (s := beaconHeard c j b s) hbase, ← hu, hresyncs,
      relay_of_no_pending (by rw [resync_eq]; rfl)]
  have hlast : takeBeacon c j b .resyncFirst { s with link := Received s.link } =
      alignBeacon c j .heard b (rosterBeacon c j b (resync (beaconHeard c j b s))) := by
    have hpresence : presenceAt c j b (resync (beaconHeard c j b s)) = .heard :=
      congrArg Entry.presence (entryAfter_resync hperiod j (beaconHeard c j b s))
    rw [takeBeacon, resyncFirst_eq, if_pos (hcauses (beaconHeard c j b s) rfl rfl), hpresence]
  obtain ⟨v, hv⟩ : ∃ v, v = rosterBeacon c j b (resync (beaconHeard c j b s)) := ⟨_, rfl⟩
  have hagain : v = { resync (beaconHeard c j b s) with
      roster := putAt rosterReset j ⟨.heard, some b.mstate, b.lock, b.seq, none, 0, b.cepoch,
        if b.ppend then some b.pepoch else none, none⟩ } := by
    rw [hv, rosterBeacon_eq, entryAfter_resync hperiod, resync_eq]
  have hfree : v.align.state = .free := by rw [hagain, resync_eq]; rfl
  have hlisten : v.member.state = .listen := by rw [hagain, resync_eq]; rfl
  have hentries : ∀ k : Station, v.roster[k] = if k = j then
      ⟨.heard, some b.mstate, b.lock, b.seq, none, 0, b.cepoch, if b.ppend then some b.pepoch else none, none⟩
      else Entry.cleared := fun k => by
    simp only [hagain]
    rw [getElem_putAt, getElem_rosterReset]
  refine ⟨⟨resync u, (exec_beacon_atEnd h hj).trans (congrArg _ hfirst), ?_, ?_, fun k => ?_⟩, fun hjoining => ?_,
    fun hactive => ?_⟩
  · rw [resync_eq, hframe]
    exact ⟨getElem_tableReset, rfl, rfl, rfl, rfl, rfl, hleave, hbeacon, hplanSlot, hfault, hrx,
      (resync_flags _ _).trans (by rw [hstate]; rfl), rfl, rfl, rfl, rfl⟩
  · rw [resync_eq, hframe]
    exact ⟨rfl, rfl, rfl, rfl, rfl⟩
  · simp only [resync_eq]
    exact getElem_rosterReset k
  · have hrecorded : alignBeacon c j .heard b v = v := by
      have hnot : ¬adoptable c b v = true := fun hadopt => by
        obtain ⟨-, -, hactive, -⟩ := (adoptable_iff c b v).mp hadopt
        rw [hjoining] at hactive
        cases hactive
      exact (if_neg hnot).trans (measure_none (.inl hfree))
    refine ⟨v, (exec_beacon_atEnd h hj).trans (congrArg _ (hlast.trans (by rw [← hv, hrecorded]))), ?_, ?_, hentries⟩
    · rw [hagain, resync_eq]
      exact ⟨getElem_tableReset, rfl, rfl, rfl, rfl, rfl, hleave, hbeacon, hplanSlot, hfault, hrx, resync_flags s.port _,
        rfl, rfl, rfl, rfl⟩
    · rw [hagain, resync_eq]
      exact ⟨rfl, rfl, rfl, rfl, rfl⟩
  · have hadopts : alignBeacon c j .heard b v = adopt c b v :=
      if_pos ((adoptable_iff c b v).mpr ⟨hfree, .inr hlisten, hactive, hperiod⟩)
    refine ⟨adopt c b v, (exec_beacon_atEnd h hj).trans (congrArg _ (hlast.trans (by rw [← hv, hadopts]))), ?_, ?_, ?_⟩
    · rw [adopt_in_listen hlisten, hagain, resync_eq]
      exact ⟨getElem_tableReset, rfl, rfl, rfl, rfl, rfl, hleave, hbeacon, hplanSlot, hfault, hrx, resync_flags s.port _,
        rfl, rfl, rfl, rfl⟩
    · intro k
      rw [adopt_in_listen hlisten]
      refine (adopting_entry c b v k).trans ?_
      rw [hentries]
      split_ifs <;> rfl
    · rw [adopt_in_listen hlisten, hagain, resync_eq]
      refine ⟨rfl, rfl, rfl, rfl, rfl, ?_, ?_⟩
      · change (if s.member.state = .active then s.gen.leaveActive else s.gen).phi = s.gen.phi
        split_ifs <;> rfl
      · change (if s.member.state = .active then s.gen.leaveActive else s.gen).kind = s.gen.kind
        split_ifs <;> rfl

end Sys2Proof.Machine

/-! ### The fault lines (R157 to R160, R163, R166 to R168) -/

namespace Sys2Proof.Machine

open Sys2Proof.Safety

/-! #### A first latch (R166, R102) -/

/-- Everything that a first latch does (R166, R102, R24). -/
theorem latch_first_eq {s : State} (h : s.mon.latch = none) (o : Origin) (g : Bool) : latch o g s = { s with
    link := (if inGroup s.member.state then s.link.requestFault ⟨o, g⟩ else s.link).withdrawFor .faulted
    member := s.member.enter .faulted
    plan := if s.member.state = .active then s.plan.leaveActive else s.plan
    gen := if s.member.state = .active then s.gen.leaveActive else s.gen
    mon := s.mon.takeLatch o
    port := s.port.raise .faultLatched } := by
  rw [latch_first h]
  cases inGroup s.member.state <;> rfl

/-- The queue after a first latch (R166, R168, R24). -/
theorem latched_link (l : Link) (m : Membership) (o : Origin) (g : Bool) :
    let after := (if inGroup m then l.requestFault ⟨o, g⟩ else l).withdrawFor .faulted
    (m = .active ∨ m = .draining → after.qFault = some ⟨⟨o, g⟩, 0⟩) ∧
      (¬(m = .active ∨ m = .draining) → after.qFault = l.qFault) ∧
      after.qBeacon = none ∧ after.qLeave = l.qLeave ∧ after.qPlan = l.qPlan := by
  intro after
  by_cases hm : m = .active ∨ m = .draining
  · have hgroup := (inGroup_iff m).mpr hm
    simp [after, hgroup, hm, withdrawFor_qBeacon, withdrawFor_qPlan]
  · have hgroup := Bool.eq_false_iff.mpr (mt (inGroup_iff m).mp hm)
    simp [after, hgroup, hm, withdrawFor_qBeacon, withdrawFor_qPlan]

/-! #### The lines of the monitor -/

@[simp] theorem line_setLine (m : Monitor) (l : FaultLine) (x : LineState) : (m.setLine l x).line l = x := by
  cases l <;> rfl

@[simp] theorem setLine_setLine (m : Monitor) (l : FaultLine) (x y : LineState) :
    (m.setLine l x).setLine l y = m.setLine l y := by
  cases l <;> rfl

/-- A sample at the qualified level (R158). -/
theorem sampled_same {x : LineState} {set : LineSettings} {pin : Level} (h : decide (pin = set.asserted) = x.asserted) :
    x.sampled set pin = { x with phase := 0, pin := pin, runCount := 0 } :=
  if_pos h

/-- A sample that differs, before COUNT of them (R158). -/
theorem sampled_counts {x : LineState} {set : LineSettings} {pin : Level} (h : decide (pin = set.asserted) ≠ x.asserted)
    (hfew : x.runCount + 1 < set.count) :
    x.sampled set pin = { x with phase := 0, pin := pin, runCount := x.runCount + 1 } :=
  (if_neg h).trans (if_neg (Nat.not_le.mpr hfew))

/-- The COUNT-th sample that differs (R158). -/
theorem sampled_qualifies {x : LineState} {set : LineSettings} {pin : Level}
    (h : decide (pin = set.asserted) ≠ x.asserted) (hmany : set.count ≤ x.runCount + 1) :
    x.sampled set pin = { x with phase := 0, pin := pin, runCount := 0, asserted := !x.asserted } :=
  (if_neg h).trans (if_pos hmany)

theorem sampleNow_quiet {c : Image} {l : FaultLine} {pin : Level} {s : State} {y : LineState}
    (h : (s.mon.line l).sampled (c.line l) pin = y) (hquiet : qualifiesAsserted (s.mon.line l) y = false) :
    sampleNow c l pin s = setLine l y s := by
  unfold sampleNow
  dsimp only
  rw [h, hquiet]
  rfl

theorem sampleNow_acts {c : Image} {l : FaultLine} {pin : Level} {s : State} {y : LineState}
    (h : (s.mon.line l).sampled (c.line l) pin = y) (hacts : qualifiesAsserted (s.mon.line l) y = true) :
    sampleNow c l pin s = assertAction c l (setLine l y s) := by
  unfold sampleNow
  dsimp only
  rw [h, hacts]
  rfl

/-- A line's sample at its instant (R157). -/
theorem exec_lineSample {c : Image} {l : FaultLine} {pin : Level} {s : State} (hc : Configured c s)
    (h : (s.mon.line l).phase = (c.line l).sample) : exec (.lineSample l pin) s = .next (sampleNow c l pin s) :=
  next_configured hc (timed_now (decide_eq_true h.ge))

/-- Settles O44. -/
theorem lineSampleQualifiesTheLine : Obligations.LineSampleQualifiesTheLine := by
  intro c s l pin hc x set hphase after
  rw [exec_lineSample hc hphase]
  refine ⟨fun hsame => ?_, fun hdiff hfew => ?_, fun hpin hasserted hmany => ?_⟩
  · exact congrArg _ (sampleNow_quiet (sampled_same hsame) (by simp [qualifiesAsserted, x]))
  · exact congrArg _ (sampleNow_quiet (sampled_counts hdiff hfew) (by simp [qualifiesAsserted, x]))
  · have hdiff : decide (pin = set.asserted) ≠ x.asserted := by simp [hpin, hasserted]
    have hsampled := sampled_qualifies hdiff hmany
    rw [hasserted] at hsampled
    exact congrArg _ (sampleNow_quiet hsampled rfl)

/-! #### The actions of the modes (R159) -/

/-- A line's sample that makes it ASSERTED takes the action of its mode (R158, R159). -/
theorem sampleNow_asserts {c : Image} {l : FaultLine} {s : State} (hreleased : (s.mon.line l).asserted = false)
    (hmany : (c.line l).count ≤ (s.mon.line l).runCount + 1) : sampleNow c l (c.line l).asserted s =
      assertAction c l (setLine l
        { s.mon.line l with phase := 0, pin := (c.line l).asserted, runCount := 0, asserted := true } s) := by
  have hdiff : decide ((c.line l).asserted = (c.line l).asserted) ≠ (s.mon.line l).asserted := by simp [hreleased]
  have hsampled := sampled_qualifies hdiff hmany
  rw [hreleased] at hsampled
  exact sampleNow_acts hsampled (by simp [qualifiesAsserted, hreleased])

theorem setLine_cutForce (m : Monitor) (l : FaultLine) (x y : LineState) :
    { m.setLine l x with cutForce := true }.setLine l y = { m.setLine l y with cutForce := true } := by
  cases l <;> rfl

theorem marked_setLine {m : Monitor} {l : FaultLine} {x : LineState} (h : x.cutMark = (m.line l).cutMark) :
    (m.setLine l x).marked = m.marked := by
  cases l <;> simp_all [Monitor.marked, Monitor.setLine, Monitor.line]

/-- A cut in a cycle that is not live sets the force alone (R160). -/
theorem cutBy_dark {l : FaultLine} {s : State} (h : s.gen.kind ≠ some .live) : cutBy l s = setCutForce s :=
  if_neg h

/-- A cut of a live cycle marks it (R160). -/
theorem cutBy_live {l : FaultLine} {s : State} (h : s.gen.kind = some .live) : cutBy l s =
    if s.mon.marked then setLine l ((s.mon.line l).mark) (setCutForce s)
    else countCut (setLine l ((s.mon.line l).mark) (setCutForce s)) := by
  have hline : (setCutForce s).mon.line l = s.mon.line l := by cases l <;> rfl
  rw [← hline]
  exact if_pos h

/-- Settles O45. -/
theorem qualifiedLineActsByItsMode : Obligations.QualifiedLineActsByItsMode := by
  intro c s l hc x set hphase hreleased hmany y mon origin wasIn
  have hexec : exec (.lineSample l set.asserted) s = .next (assertAction c l (setLine l y s)) :=
    (exec_lineSample hc hphase).trans (congrArg _ (sampleNow_asserts hreleased hmany))
  have hline : (setLine l y s).mon.line l = y := line_setLine s.mon l y
  have hmark : setLine l ((setLine l y s).mon.line l).mark (setCutForce (setLine l y s)) =
      { s with mon := { s.mon.setLine l { y with cutMark := true } with cutForce := true } } := by
    rw [hline]
    exact congrArg (fun m => ({ s with mon := m } : State)) (setLine_cutForce s.mon l y _)
  have hmarked : (setLine l y s).mon.marked = s.mon.marked := marked_setLine rfl
  have horigin : lineOrigin l = origin := by cases l <;> rfl
  rw [hexec]
  refine ⟨fun hmode => ?_, fun hmode => ?_, fun hmode hdark => ?_, fun hmode hlive => ⟨fun hcut => ?_, fun ha hb => ?_⟩,
    fun hmode hlatched => ?_, fun hmode hlatch => ?_⟩
  all_goals rw [assertAction, show (c.line l).mode = _ from hmode]
  · rfl
  · dsimp only
    rw [hline, setLine, setLine_mon, setLine_setLine]
    rfl
  · dsimp only
    rw [cutBy_dark (s := setLine l y s) hdark]
    rfl
  · have hyes : s.mon.marked = true := by
      rcases hcut with ha | hb
      · simp [Monitor.marked, ha]
      · simp [Monitor.marked, hb]
    dsimp only
    rw [cutBy_live (s := setLine l y s) hlive, hmark, hmarked, hyes]
    rfl
  · have hno : s.mon.marked = false := by simp [Monitor.marked, ha, hb]
    dsimp only
    rw [cutBy_live (s := setLine l y s) hlive, hmark, hmarked, hno, ← countUp_eq]
    have hcount : (s.mon.setLine l { y with cutMark := true }).cutCycles = s.mon.cutCycles := by cases l <;> rfl
    rw [← hcount]
    rfl
  · have hother : (setLine l y s).mon.latch.isSome = true := by
      rw [← hlatched]
      cases l <;> rfl
    have hcount : mon.latches = s.mon.latches := by cases l <;> rfl
    dsimp only
    rw [latch_second hother, ← countUp_eq, ← hcount]
    rfl
  · have hfirst : (setLine l y s).mon.latch = none := by
      rw [← hlatch]
      cases l <;> rfl
    have htaken : mon.takeLatch origin = { mon with
        latchForce := true
        latch := some origin
        history := []
        emptied := s.mon.emptied ++ s.mon.history
        latches := if s.mon.latches = 0xFFFF#16 then 0xFFFF#16 else s.mon.latches + 1 } := by
      rw [← countUp_eq]
      cases l <;> rfl
    obtain ⟨hin, hout, hbeacon, hleave, hplan⟩ := latched_link s.link s.member.state origin set.groupTrip
    refine ⟨_, congrArg _ (latch_first_eq hfirst _ _), ?_⟩
    rw [horigin]
    exact ⟨htaken, rfl, hin, hout, hbeacon, hleave, hplan, rfl, rfl, rfl, rfl⟩

end Sys2Proof.Machine

/-! ### The phase point (R139, R141 to R147, R153, R161, R164, R165) -/

namespace Sys2Proof.Machine

open Sys2Proof.Safety

/-! #### What a phase point does to the generator, the monitor and the port -/

/-- The generator after a phase point, field by field (R139, R141, R145, R147, R153). -/
theorem genAfter_eq (c : Image) (active live : Bool) (g : Gen) : genAfter c active live g = { g.walk c with
    kind := some (if live then .live else .dark)
    interval := if live then some .dta else none
    age := 0
    hold := false
    unbroken := live
    otaEff := min g.staged.toNat g.ceiling
    markCount := if active then 4 else g.markCount } := by
  cases active <;> cases live <;> rfl

/-- The walk with the due sequence of the table of R144 (R147). -/
theorem walk_eq (c : Image) (g : Gen) : g.walk c = { g with
    phi := (((g.phi : Int) + walkMove c.p c.walkStep g.phi g.held) % (c.p : Int)).toNat
    dueSeq := g.dueSeq +
      (if (c.p : Int) ≤ g.phi + walkMove c.p c.walkStep g.phi g.held then 2
        else if (g.phi : Int) + walkMove c.p c.walkStep g.phi g.held < 0 then 0 else 1) } := by
  unfold Gen.walk movedPhi dueAdvance
  dsimp only
  split_ifs <;> rfl

/-- A history keeps its last 63 entries and takes the new one (R164). -/
theorem joinHistory_eq (h : List CutEntry) (e : CutEntry) :
    joinHistory h e = if h.length < 64 then h ++ [e] else h.drop (h.length - 63) ++ [e] := by
  unfold joinHistory
  by_cases hlt : h.length < 64
  · rw [if_neg (Nat.not_le.mpr hlt), if_pos hlt]
  · rw [if_pos (Nat.not_lt.mp hlt), if_neg hlt]

theorem joinHistory_eq_drop (h : List CutEntry) (e : CutEntry) : joinHistory h e = h.drop (h.length - 63) ++ [e] := by
  rw [joinHistory_eq]
  split_ifs with hlt
  · rw [show h.length - 63 = 0 by omega]
    rfl
  · rfl

/-- The monitor after a phase point without an escalation (R161). -/
def monAfter (c : Image) (ended live : Bool) (m : Monitor) : Monitor :=
  { m with
    a := m.a.atPhasePoint c.flta live
    b := m.b.atPhasePoint c.fltb live
    cutForce := m.a.cutting c.flta || m.b.cutting c.fltb
    history := if ended then joinHistory m.history m.entry else m.history
    emptied := []
    cutCycles := if (m.a.cutting c.flta || m.b.cutting c.fltb) && live then countUp m.cutCycles else m.cutCycles }

/-- The port after a phase point without an escalation: the events of R145 and R161. -/
def portAfter (clipped cut : Bool) (p : Port) : Port :=
  let q := if clipped then p.raise .demandClipped else p
  if cut then q.raise .cut else q

theorem portAfter_flags (clipped cut : Bool) (p : Port) : (portAfter clipped cut p).flags =
    p.flags ||| (if clipped then 0x0200#16 else 0) ||| (if cut then 0x0100#16 else 0) := by
  cases clipped <;> cases cut <;> simp [portAfter, Port.raise] <;> rfl

theorem portAfter_frame (clipped cut : Bool) (p : Port) : portAfter clipped cut p =
    { p with flags := (portAfter clipped cut p).flags, marks := (portAfter clipped cut p).marks } := by
  cases clipped <;> cases cut <;> rfl

/-- The cut of a cycle that begins with a CUT line ASSERTED (R161). -/
def cutsNow (c : Image) (m : Monitor) : Bool :=
  m.a.cutting c.flta || m.b.cutting c.fltb

/-- A phase point without an escalation, block by block (R139, R161). -/
theorem takePhasePoint_eq {c : Image} {wasHeld : Bool} {s : State} (h : s.gen.kind = none ∨ ¬Escalating c s) :
    takePhasePoint c wasHeld s = { s with
      gen := genAfter c (s.member.state == .active) (s.member.state == .active && !wasHeld) s.gen
      mon := monAfter c s.gen.kind.isSome (s.member.state == .active && !wasHeld) s.mon
      port := portAfter (decide (s.gen.ceiling < s.gen.staged.toNat))
        (cutsNow c s.mon && (s.member.state == .active && !wasHeld)) s.port } := by
  rw [takePhasePoint_calm h, endForces_frame, endForces_mon, endForces_port, portAfter]
  simp only [decide_eq_true_eq]
  rfl

/-- A line in MODE CUT that is ASSERTED. -/
theorem cutting_eq (x : LineState) (set : LineSettings) :
    x.cutting set = (decide (set.mode = .cut) && x.asserted) := rfl

/-- The monitor after a phase point, with the lines' marks and forces spelled out (R161). -/
theorem monAfter_eq (c : Image) (ended live : Bool) (m : Monitor) : monAfter c ended live m = { m with
    a := { m.a with holdForce := m.a.holdForce && m.a.asserted,
                    cutMark := (decide (c.flta.mode = .cut) && m.a.asserted) && live }
    b := { m.b with holdForce := m.b.holdForce && m.b.asserted,
                    cutMark := (decide (c.fltb.mode = .cut) && m.b.asserted) && live }
    cutForce := cutsNow c m
    history := if ended then
        (if m.history.length < 64 then m.history ++ [m.entry] else m.history.drop (m.history.length - 63) ++ [m.entry])
      else m.history
    emptied := []
    cutCycles := if cutsNow c m && live && m.cutCycles != 0xFFFF#16 then m.cutCycles + 1 else m.cutCycles } := by
  have hcycles : (if (cutsNow c m && live) = true then countUp m.cutCycles else m.cutCycles) =
      if cutsNow c m && live && m.cutCycles != 0xFFFF#16 then m.cutCycles + 1 else m.cutCycles := by
    cases cutsNow c m && live
    · rfl
    · by_cases hfull : m.cutCycles = 0xFFFF#16 <;> simp [countUp, hfull]
  rw [← hcycles, ← joinHistory_eq]
  unfold monAfter LineState.atPhasePoint
  rw [Bool.and_comm live, Bool.and_comm live]
  rfl

/-! #### The instant of a phase point (R139, R143) -/

theorem phasePassed_iff (s : State) : phasePassed s = true ↔
    ((s.timer.seq - s.gen.dueSeq).toNat = 0 ∧ s.gen.phi < s.timer.length ∧ s.gen.phi ≤ s.timer.counter) ∨
      ((s.timer.seq - s.gen.dueSeq).toNat = 1 ∧ s.gen.phi ≤ s.timer.prevLength + s.timer.counter) ∨
      (2 ≤ (s.timer.seq - s.gen.dueSeq).toNat ∧ (s.timer.seq - s.gen.dueSeq).toNat < 128) := by
  unfold phasePassed phaseOffset
  generalize (s.timer.seq - s.gen.dueSeq).toNat = back
  dsimp only
  rcases Nat.lt_or_ge back 2 with hlow | hhigh
  · obtain rfl | rfl : back = 0 ∨ back = 1 := by omega
    · by_cases hphi : s.gen.phi < s.timer.length <;> simp [hphi]
    · simp
      omega
  · have h0 : back ≠ 0 := by omega
    have h1 : back ≠ 1 := by omega
    by_cases hpast : back < 128 <;> simp [h0, h1, hpast, hhigh]

/-- The phase point stands in its due cycle, or in the one after a cycle that was too short (R139). -/
theorem phaseDue_of_instant {s : State} (hhold : s.gen.hold = false)
    (h : (s.gen.dueSeq = s.timer.seq ∧ s.gen.phi = s.timer.counter ∧ s.timer.counter < s.timer.length) ∨
      (s.timer.seq = s.gen.dueSeq + 1 ∧ s.gen.phi = s.timer.prevLength + s.timer.counter)) : phaseDue s = true := by
  have hpassed : phasePassed s = true := by
    rw [phasePassed_iff]
    rcases h with ⟨hseq, hphi, hlt⟩ | ⟨hseq, hphi⟩
    · refine .inl ⟨by rw [hseq, BitVec.sub_self]; rfl, by omega, by omega⟩
    · refine .inr (.inl ⟨?_, by omega⟩)
      rw [hseq, add_sub_cancel_left]
      rfl
  rw [phaseDue, hhold, hpassed]
  rfl

theorem exec_phasePoint {c : Image} {s : State} (hc : Configured c s) (h : phaseDue s = true) :
    exec .phasePoint s = .next (reachPhasePoint c s) :=
  next_configured hc (timed_now h)

theorem reachPhasePoint_taken {c : Image} {s : State} (h : mustHold c s.gen = false) :
    reachPhasePoint c s = takePhasePoint c false s :=
  if_neg (Bool.eq_false_iff.mp h)

theorem reachPhasePoint_held {c : Image} {s : State} (h : mustHold c s.gen = true) :
    reachPhasePoint c s = { s with gen := { s.gen with hold := true } } :=
  if_pos h

/-- Settles O39. -/
theorem phasePointTakesDemandWalksAndBegins : Obligations.PhasePointTakesDemandWalksAndBegins := by
  intro c s hc hhold hinstant hrun hcalm fwd bwd move cutA cutB live cutNow clipped entry
  have hlive : (s.member.state == .active && !false) = live := Bool.and_true _
  have hactive : (s.member.state == .active) = live := rfl
  have hexec : exec .phasePoint s = .next { s with
      gen := genAfter c live live s.gen
      mon := monAfter c s.gen.kind.isSome live s.mon
      port := portAfter clipped cutNow s.port } := by
    rw [exec_phasePoint hc (phaseDue_of_instant hhold hinstant), reachPhasePoint_taken (mustHold_of_run hrun),
      takePhasePoint_eq hcalm, hlive, hactive]
    rfl
  have hkind : s.gen.kind.isSome = !decide (s.gen.kind = none) := by cases s.gen.kind <;> rfl
  refine ⟨_, hexec, rfl, ?_, ?_, portAfter_flags _ _ _, portAfter_frame _ _ _⟩
  · dsimp only
    rw [genAfter_eq, walk_eq, ← hhold]
    rfl
  · dsimp only
    rw [monAfter_eq, hkind]
    by_cases hnone : s.gen.kind = none
    · simp only [hnone]
      rfl
    · simp only [hnone, decide_false]
      rfl

/-! #### A held phase point (R143) -/

/-- What a latch of the present instant emptied only adds entries to those an entry is judged by (R165, log 28). -/
theorem cutCount_joinHistory_le (emptied h : List CutEntry) (e : CutEntry) :
    cutCount (joinHistory h e) ≤ cutCount (joinHistory (emptied ++ h) e) := by
  have hdrop : h.drop (h.length - 63) = (emptied ++ h).drop (emptied.length + (h.length - 63)) :=
    (List.drop_length_add_append _).symm
  have hsub : (h.drop (h.length - 63)).Sublist ((emptied ++ h).drop ((emptied ++ h).length - 63)) := by
    rw [hdrop]
    exact List.drop_sublist_drop_left _ (by rw [List.length_append]; omega)
  rw [joinHistory_eq_drop, joinHistory_eq_drop]
  exact ((hsub.append_right [e]).filter _).length_le

/-- An uncut entry brings no cut count to the limit (R164, R165). -/
theorem cutCount_joinHistory_uncut (h : List CutEntry) : cutCount (joinHistory h ⟨false, false⟩) ≤ cutCount h := by
  rw [joinHistory_eq_drop]
  unfold cutCount
  rw [List.filter_append]
  simpa [CutEntry.isCut] using ((List.drop_sublist _ h).filter CutEntry.isCut).length_le

/-- After a phase point that begins a dark cycle without an escalation, the next entry does not escalate either. -/
theorem not_escalating_after_dark {c : Image} {s : State} (h : ¬Escalating c s) (hk : s.gen.kind.isSome = true) (g : Gen)
    (p : Port) : ¬Escalating c { s with gen := g, mon := monAfter c s.gen.kind.isSome false s.mon, port := p } := by
  rintro ⟨hlimit, hcount⟩
  refine h ⟨hlimit, hcount.trans ?_⟩
  have hhistory : (monAfter c s.gen.kind.isSome false s.mon).history = joinHistory s.mon.history s.mon.entry := by
    rw [monAfter, hk]
    rfl
  have hentry : (monAfter c s.gen.kind.isSome false s.mon).entry = ⟨false, false⟩ := rfl
  have hstanding : (monAfter c s.gen.kind.isSome false s.mon).standing =
      (monAfter c s.gen.kind.isSome false s.mon).history := rfl
  change cutCount (joinHistory (monAfter c s.gen.kind.isSome false s.mon).standing
    (monAfter c s.gen.kind.isSome false s.mon).entry) ≤ _
  rw [hentry, hstanding, hhistory]
  exact (cutCount_joinHistory_uncut _).trans (cutCount_joinHistory_le _ _ _)

/-- The phase point directly after a dark cycle's (R143, R147). -/
theorem genAfter_dark_again (c : Image) (active : Bool) (g : Gen) :
    genAfter c active active { g with
      kind := some .dark
      interval := none
      age := 0
      hold := false
      unbroken := false
      otaEff := min g.staged.toNat g.ceiling
      markCount := if active then 4 else g.markCount } =
    { ({ g with
        kind := some .dark
        interval := none
        age := 0
        hold := false
        unbroken := false
        otaEff := min g.staged.toNat g.ceiling
        markCount := if active then 4 else g.markCount } : Gen).walk c with
      kind := some (if active then .live else .dark)
      interval := if active then some .dta else none
      unbroken := active } := by
  rw [genAfter_eq]
  cases active <;> rfl

/-- A demand that is clipped at two phase points of one instant raises its event once (R145, R196). -/
theorem portAfter_dark_again_flags (clipped cut : Bool) (p : Port) :
    (portAfter clipped cut (portAfter clipped false p)).flags =
      p.flags ||| (if clipped then 0x0200#16 else 0) ||| (if cut then 0x0100#16 else 0) := by
  rw [portAfter_flags, portAfter_flags]
  cases clipped <;> cases cut <;> simp [BitVec.or_assoc]

/-- Settles O40. -/
theorem earlyPhasePointIsHeldAndThenTakenDark : Obligations.EarlyPhasePointIsHeldAndThenTakenDark := by
  intro c s hc hkind
  refine ⟨fun hhold hinstant hrun => ?_, fun hhold hotb hage hcalm => ?_⟩
  · rw [exec_phasePoint hc (phaseDue_of_instant hhold hinstant),
      reachPhasePoint_held (mustHold_of_running hkind hrun)]
  · intro g back passed active taken next cutA cutB cutNow clipped join entry rest
    have hdue : heldDue c s = true := by
      have hwait : otbWait c s.gen = 0 := by
        simp only [otbWait, hotb]
        omega
      simp [heldDue, hhold, hwait]
    obtain ⟨t, ht⟩ : ∃ t, t = takePhasePoint c true s := ⟨_, rfl⟩
    have hsome : s.gen.kind.isSome = true := by rw [hkind]; rfl
    have hdark : (s.member.state == .active && !true) = false := Bool.and_false _
    have hfirst : t = { s with
        gen := taken, mon := monAfter c s.gen.kind.isSome false s.mon, port := portAfter clipped false s.port } := by
      rw [ht, takePhasePoint_eq (.inr hcalm), hdark, genAfter_eq, Bool.and_false]
      rfl
    have hcalm' : ¬Escalating c t := by
      rw [hfirst]
      exact not_escalating_after_dark hcalm hsome _ _
    have hpassed : phasePassed t = true ↔ passed := by
      rw [phasePassed_iff, hfirst]
    have hexec : exec .heldPhasePoint s = .next (if phasePassed t then takePhasePoint c false t else t) :=
      next_configured hc ((timed_now hdue).trans (by rw [ht]; rfl))
    have hmon : monAfter c s.gen.kind.isSome false s.mon = rest false false (join s.mon.history entry) s.mon.cutCycles := by
      rw [monAfter_eq, hsome]
      simp only [Bool.and_false, Bool.false_and]
      rfl
    by_cases hp : passed
    · have hlive : (s.member.state == .active && !false) = active := Bool.and_true _
      have hactive : (s.member.state == .active) = active := rfl
      rw [if_pos (hpassed.mpr hp), takePhasePoint_eq (.inr hcalm'), hfirst] at hexec
      dsimp only at hexec
      rw [hlive, hactive, hmon] at hexec
      refine ⟨_, hexec, rfl, ?_, fun hn => absurd hp hn, fun _ => ⟨genAfter_dark_again c _ _, ?_, ?_⟩⟩
      · dsimp only
        rw [portAfter_frame, portAfter_frame clipped false s.port]
      · rw [monAfter_eq]
        have hidem : ∀ x y : Bool, (x && y && y) = (x && y) := by decide
        simp only [rest, hidem]
        rfl
      · exact portAfter_dark_again_flags clipped cutNow s.port
    · rw [if_neg (mt hpassed.mp hp), hfirst] at hexec
      refine ⟨_, hexec, rfl, portAfter_frame clipped false s.port, fun _ => ⟨rfl, hmon, ?_⟩, fun hy => absurd hy hp⟩
      exact (portAfter_flags _ _ _).trans (by simp)

end Sys2Proof.Machine

/-! ### The escalating phase point, the intervals and the pins (R142, R151 to R153, R156, R165 to R168) -/

namespace Sys2Proof.Machine

open Sys2Proof.Safety

/-! #### Escalation (R165 to R168) -/

/-- The station at an escalating phase point, before its latch: the demand, the walk, the new cycle, and the ended cycle's
entry (R139, R161). -/
def pointed (c : Image) (s : State) : State :=
  { s with
    gen := genAfter c (s.member.state == .active) (s.member.state == .active) s.gen
    mon := { s.mon with history := joinHistory s.mon.history s.mon.entry }
    port := portAfter (decide (s.gen.ceiling < s.gen.staged.toNat)) false s.port }

/-- An escalating phase point latches, and then the forces end (R161, R165). -/
theorem takePhasePoint_of_escalating {c : Image} {s : State} (hk : s.gen.kind = some .live) (h : Escalating c s) :
    takePhasePoint c false s = endForces c (s.member.state == .active)
      (latch .escalate (escalationTrip c s.mon.entry) (pointed c s)) := by
  have hlive : (s.member.state == .active && !false) = (s.member.state == .active) := Bool.and_true _
  rw [takePhasePoint_escalating (by rw [hk]; rfl) h, hlive, pointed, portAfter]
  simp only [decide_eq_true_eq]
  rfl

/-- The cut of a new cycle raises no event but CUT (R161). -/
theorem endForces_flag {c : Image} {live : Bool} {s : State} {n : Nat} (hn : n < 8) :
    (endForces c live s).port.flags.getLsbD n = s.port.flags.getLsbD n := by
  rw [endForces_port]
  split_ifs
  · exact getLsbD_raise_of_ne s.port (by omega) (by simp [eventNumber]; omega)
  · rfl

theorem pointed_flag {c : Image} {s : State} {n : Nat} (hn : n < 8) :
    (pointed c s).port.flags.getLsbD n = s.port.flags.getLsbD n := by
  unfold pointed
  cases decide (s.gen.ceiling < s.gen.staged.toNat)
  · rfl
  · exact getLsbD_raise_of_ne s.port (by omega) (by simp [eventNumber]; omega)

/-- What stands of an escalating phase point while the station is latched: a second latch (R167). -/
theorem escalating_second {c : Image} {s : State} (hk : s.gen.kind = some .live) (h : Escalating c s)
    (hlatch : s.mon.latch.isSome = true) :
    takePhasePoint c false s = { s with
        gen := (pointed c s).gen
        mon := (takePhasePoint c false s).mon
        port := (takePhasePoint c false s).port } ∧
      (takePhasePoint c false s).mon.latches = countUp s.mon.latches ∧
      (takePhasePoint c false s).mon.latch = s.mon.latch ∧
      (takePhasePoint c false s).mon.latchForce = s.mon.latchForce ∧
      (takePhasePoint c false s).mon.emptied = [] ∧
      (takePhasePoint c false s).mon.history = joinHistory s.mon.history s.mon.entry ∧
      ∀ n, n < 8 → (takePhasePoint c false s).port.flags.getLsbD n = s.port.flags.getLsbD n := by
  rw [takePhasePoint_of_escalating hk h, latch_second (s := pointed c s) hlatch]
  refine ⟨by rw [endForces_frame]; rfl, ?_, ?_, ?_, ?_, ?_, fun n hn => (endForces_flag hn).trans
    (pointed_flag (c := c) hn)⟩
  all_goals rw [endForces_mon] <;> rfl

/-- What an escalating phase point does to a station that is not latched (R165, R166, R102). -/
theorem escalating_first {c : Image} {s : State} (hk : s.gen.kind = some .live) (h : Escalating c s)
    (hlatch : s.mon.latch = none) :
    takePhasePoint c false s = { s with
        gen := if s.member.state = .active then (pointed c s).gen.leaveActive else (pointed c s).gen
        mon := (takePhasePoint c false s).mon
        port := (takePhasePoint c false s).port
        link := (if inGroup s.member.state then s.link.requestFault ⟨.escalate, escalationTrip c s.mon.entry⟩
          else s.link).withdrawFor .faulted
        member := s.member.enter .faulted
        plan := if s.member.state = .active then s.plan.leaveActive else s.plan } ∧
      (takePhasePoint c false s).mon.latches = countUp s.mon.latches ∧
      (takePhasePoint c false s).mon.latch = some .escalate ∧
      (takePhasePoint c false s).mon.latchForce = true ∧
      (takePhasePoint c false s).mon.emptied = [] ∧
      (takePhasePoint c false s).mon.history = [] ∧
      (takePhasePoint c false s).port.flags.getLsbD 3 = true := by
  rw [takePhasePoint_of_escalating hk h, latch_first_eq (s := pointed c s) hlatch]
  refine ⟨by rw [endForces_frame]; rfl, ?_, ?_, ?_, ?_, ?_, (endForces_flag (by decide)).trans
    (getLsbD_raise_self _ .faultLatched)⟩
  all_goals rw [endForces_mon] <;> rfl

/-- A line keeps its sampling through a phase point (R157, R161). -/
theorem line_after_escalating {c : Image} {s : State} (hk : s.gen.kind = some .live) (h : Escalating c s)
    (hlatch : s.mon.latch = none) (l : FaultLine) :
    ((takePhasePoint c false s).mon.line l).phase = (s.mon.line l).phase ∧
      ((takePhasePoint c false s).mon.line l).asserted = (s.mon.line l).asserted ∧
      ((takePhasePoint c false s).mon.line l).runCount = (s.mon.line l).runCount := by
  rw [takePhasePoint_of_escalating hk h, latch_first_eq (s := pointed c s) hlatch, endForces_mon]
  cases l <;> exact ⟨rfl, rfl, rfl⟩

/-- A line that qualifies ASSERTED leaves what an escalation reads, but for the history that its latch empties (R165,
log 28). -/
theorem escalating_after_line_latch {c : Image} {s : State} {l : FaultLine} {y : LineState} (o : Origin)
    (hmark : y.cutMark = (s.mon.line l).cutMark) (h : Escalating c s) {t : State}
    (hmon : t.mon = (s.mon.setLine l y).takeLatch o) : Escalating c t := by
  have hstanding : t.mon.standing = s.mon.standing := by
    rw [hmon, standing_takeLatch]
    cases l <;> rfl
  have hentry : t.mon.entry = s.mon.entry := by
    rw [hmon]
    cases l
    · exact congrArg (fun b => (⟨b, s.mon.b.cutMark⟩ : CutEntry)) hmark
    · exact congrArg (fun b => (⟨s.mon.a.cutMark, b⟩ : CutEntry)) hmark
  unfold Escalating at h ⊢
  rwa [hstanding, hentry]

/-- Settles O41. -/
theorem escalatingPhasePointLatches : Obligations.EscalatingPhasePointLatches := by
  intro c s hc hhold hkind hseq hphi hlength hotb hage hesc wasIn entry trip up live begun
  have hrun : ∀ t : State, t.gen.interval = some .otb → t.gen.age = s.gen.age → mustHold c t.gen = false :=
    fun t hi ha => mustHold_of_run (.inr ⟨hi, by rw [ha]; exact hage⟩)
  have hexec : exec .phasePoint s = .next (takePhasePoint c false s) := by
    rw [exec_phasePoint hc (phaseDue_of_instant hhold (.inl ⟨hseq, hphi, hlength⟩)),
      reachPhasePoint_taken (hrun s hotb rfl)]
  have hup : ∀ n, countUp n = up n := countUp_eq
  have hbegun : (pointed c s).gen = begun := by
    have hgen : (pointed c s).gen = genAfter c live live s.gen := rfl
    rw [hgen, genAfter_eq, walk_eq]
    simp only [begun, walk_eq, ← hhold]
  refine ⟨fun hlatch => ?_, fun hlatch => ?_, fun l hlatch hmode hphase hreleased hmany => ?_⟩
  · obtain ⟨hframe, hlatches, horigin, hforce, hemptied, hhistory, hflag⟩ := escalating_first hkind hesc hlatch
    obtain ⟨hin, hout, hbeacon, hleave, hplan⟩ := latched_link s.link s.member.state .escalate trip
    refine ⟨_, hexec, by rw [hframe]; rfl, horigin, hforce, hhistory, hemptied, hlatches.trans (hup _), hflag, ?_⟩
    rw [hframe]
    have hfaulted : ∀ t : State, t.member = s.member.enter .faulted → outputsAllowed t = false := fun t ht => by
      rw [outputsAllowed, ht]
      rfl
    refine ⟨hin, hout, hbeacon, hleave, hplan, ?_, ?_, ?_, rfl, rfl⟩
    · rw [hbegun]
      simp only [live, decide_eq_true_eq]
      rfl
    · rw [gaActive, hfaulted _ rfl, Bool.false_and]
    · rw [gbActive, hfaulted _ rfl, Bool.false_and]
  · obtain ⟨hframe, hlatches, horigin, hforce, hemptied, hhistory, hflag⟩ := escalating_second hkind hesc hlatch
    refine ⟨_, hexec, hlatches.trans (hup _), horigin, hforce, hemptied, hhistory.trans (joinHistory_eq _ _),
      hflag 3 (by decide), ?_, ?_⟩
    · rw [hframe]
      exact hbegun
    · rw [hframe]
  · intro origin taken
    have horigin : lineOrigin l = origin := by cases l <;> rfl
    constructor
    · let y : LineState := { s.mon.line l with
        phase := 0, pin := (c.line l).asserted, runCount := 0, asserted := true }
      have hfirst : (setLine l y s).mon.latch = none := by
        rw [← hlatch]
        cases l <;> rfl
      obtain ⟨t, ht⟩ : ∃ t, t = latch origin (c.line l).groupTrip (setLine l y s) := ⟨_, rfl⟩
      have hsample : exec (.lineSample l (c.line l).asserted) s = .next t := by
        rw [exec_lineSample hc hphase, sampleNow_asserts hreleased hmany, assertAction, hmode, horigin, ht]
      rw [latch_first_eq hfirst] at ht
      have hgen : t.gen = if s.member.state = .active then s.gen.leaveActive else s.gen := by rw [ht]; rfl
      have hgenSame : t.gen.hold = s.gen.hold ∧ t.gen.kind = s.gen.kind ∧ t.gen.dueSeq = s.gen.dueSeq ∧
          t.gen.phi = s.gen.phi ∧ t.gen.interval = s.gen.interval ∧ t.gen.age = s.gen.age := by
        rw [hgen]
        split_ifs <;> exact ⟨rfl, rfl, rfl, rfl, rfl, rfl⟩
      obtain ⟨hhold', hkind', hseq', hphi', hinterval', hage'⟩ := hgenSame
      have htimer : t.timer = s.timer := by rw [ht]; rfl
      have hconfigured : Configured c t := by rw [ht]; exact hc
      have hmon : t.mon = (s.mon.setLine l y).takeLatch origin := by rw [ht]; rfl
      have hlatched : t.mon.latch = some origin := by rw [hmon]; rfl
      have hlatches : t.mon.latches = countUp s.mon.latches := by
        rw [hmon]
        cases l <;> rfl
      have hpoint : exec .phasePoint t = .next (takePhasePoint c false t) := by
        have hdue : phaseDue t = true := phaseDue_of_instant (hhold'.trans hhold)
          (.inl ⟨by rw [hseq', htimer, hseq], by rw [hphi', htimer, hphi], by rw [htimer]; exact hlength⟩)
        rw [exec_phasePoint hconfigured hdue, reachPhasePoint_taken (hrun t (hinterval'.trans hotb) hage')]
      obtain ⟨hframe, hcount, hkept, -⟩ := escalating_second (hkind'.trans hkind)
        (escalating_after_line_latch (y := y) origin rfl hesc hmon) (by rw [hlatched]; rfl)
      obtain ⟨hin, hout, -⟩ := latched_link s.link s.member.state origin (c.line l).groupTrip
      have hlink : (takePhasePoint c false t).link = t.link := by rw [hframe]
      have hmember : (takePhasePoint c false t).member = s.member.enter .faulted := by rw [hframe, ht]; rfl
      refine ⟨t, _, hsample, hpoint, hkept.trans hlatched, ?_, by rw [hmember]; rfl, ?_⟩
      · rw [hcount, hlatches, hup, hup]
      · rw [hlink, ht]
        exact ⟨hin, hout⟩
    · obtain ⟨hframe, hlatches, hescalate, -⟩ := escalating_first hkind hesc hlatch
      obtain ⟨hphase', hreleased', hcount'⟩ := line_after_escalating hkind hesc hlatch l
      obtain ⟨hin, hout, -⟩ := latched_link s.link s.member.state .escalate trip
      obtain ⟨t, ht⟩ : ∃ t, t = takePhasePoint c false s := ⟨_, rfl⟩
      rw [← ht] at hframe hlatches hescalate hphase' hreleased' hcount' hexec
      have hconfigured : Configured c t := by rw [hframe]; exact hc
      have hsecond : ∀ y : LineState, (setLine l y t).mon.latch.isSome = true := fun y => by
        have hkept : (setLine l y t).mon.latch = t.mon.latch := by cases l <;> rfl
        rw [hkept, hescalate]
        rfl
      have hsample : exec (.lineSample l (c.line l).asserted) t = .next (latch (lineOrigin l) (c.line l).groupTrip
          (setLine l { t.mon.line l with phase := 0, pin := (c.line l).asserted, runCount := 0, asserted := true } t)) := by
        rw [exec_lineSample hconfigured (hphase'.trans hphase), sampleNow_asserts (hreleased'.trans hreleased)
          (by rw [hcount']; exact hmany), assertAction, hmode]
      rw [latch_second (hsecond _)] at hsample
      have hcounted : ∀ y : LineState, (setLine l y t).mon.latches = t.mon.latches := fun y => by cases l <;> rfl
      have hkept : ∀ y : LineState, (setLine l y t).mon.latch = t.mon.latch := fun y => by cases l <;> rfl
      refine ⟨t, _, hexec, hsample, (hkept _).trans hescalate, ?_, ?_, ?_⟩
      · refine (congrArg countUp (hcounted _)).trans ?_
        rw [hlatches, hup, hup]
      · have hmember : t.member = s.member.enter .faulted := by rw [hframe]
        change t.member.state = _
        rw [hmember]
        rfl
      · have hlink : t.link = _ := congrArg State.link hframe
        change (wasIn → t.link.qFault = _) ∧ (¬wasIn → t.link.qFault = _)
        rw [hlink]
        exact ⟨hin, hout⟩

/-! #### Intervals and MARK (R142, R153) -/

/-- A timed step whose instant is the next step of the station (log 3). -/
theorem timed_next {c : Image} {due possible : State → Bool} {act : State → State} {s : State} (hnot : due s = false)
    (hpossible : possible s = true) (hnext : due (goOn c s) = true) : timed c due possible act s = act (goOn c s) := by
  obtain ⟨n, hn⟩ : ∃ n, horizon = n + 1 := ⟨65535, rfl⟩
  have hrun : runTo c due possible horizon s = some (goOn c s) := by
    rw [hn, runTo, hnot, hpossible]
    exact runTo_now hnext n
  rw [timed, reach, hrun]

theorem exec_intervalEnd {c : Image} {s : State} (hc : Configured c s) (h : intervalDue c s = true) :
    exec .intervalEnd s = .next (endInterval s) :=
  next_configured hc (timed_now h)

/-- Settles O42. -/
theorem intervalsRunInOrderAndMarkEnds : Obligations.IntervalsRunInOrderAndMarkEnds := by
  intro c s hc
  refine ⟨fun hi hage => ?_, fun hi hage => ?_, fun hi hage => ?_, fun hmark => ?_, fun hmark hdue => ?_⟩
  · rw [exec_intervalEnd hc (by simp [intervalDue, intervalLength, hi, hage]), endInterval, nextInterval, hi]
  · rw [exec_intervalEnd hc (by simp [intervalDue, intervalLength, hi, hage]), endInterval, nextInterval, hi]
  · rw [exec_intervalEnd hc (by simp [intervalDue, intervalLength, hi, hage]), endInterval, nextInterval, hi]
  · exact next_configured hc (timed_now (by simp [hmark]))
  · have hgo : goOn c s = tick c s := by
      have hnone : nextOwn c s = none := by
        simpa [dueNow, show s.loader.config = some c from hc] using hdue
      rw [goOn, hnone]
    have hexec : exec .markEnd s = .next (goOn c s) :=
      next_configured hc (timed_next (by simp [hmark]) rfl (by simp [hgo, Gen.tick, hmark]))
    refine ⟨goOn c s, hexec, ?_⟩
    rw [hgo]
    refine ⟨by simp [markHigh, Gen.tick, hmark], rfl, rfl, rfl, rfl, rfl, rfl, rfl, rfl, rfl, rfl, rfl, rfl, rfl, rfl⟩

end Sys2Proof.Machine

/-! ### The output pins (R16, R17, R142, R151 to R153, R156, R185, R187, R198) -/

namespace Sys2Proof.Machine

open Sys2Proof.Safety

/-- The conditions of R151 under which an output may be active. -/
theorem outputsAllowed_iff (s : State) : outputsAllowed s = true ↔
    s.member.state = .active ∧ s.gen.kind = some .live ∧ s.gen.unbroken = true ∧ s.mon.cutForce = false ∧
      s.mon.a.holdForce = false ∧ s.mon.b.holdForce = false ∧ s.mon.latchForce = false := by
  simp [outputsAllowed, forced, and_assoc]

theorem outLevel_eq (c : Image) (active : Bool) : outLevel c active =
    .driven (if active = true then (if c.activeLow then .low else .high)
      else (if c.activeLow then .high else .low)) := by
  unfold outLevel
  cases active <;> cases c.activeLow <;> rfl

/-- ALERT# is asserted exactly while a set flag is enabled (R198). -/
theorem alertAsserted_iff (s : State) : alertAsserted s = true ↔
    ∃ n, n < 16 ∧ s.port.flags.getLsbD n = true ∧ s.port.mask.getLsbD n = true := by
  have hzero : s.port.flags &&& s.port.mask = 0#16 ↔
      ∀ n, n < 16 → (s.port.flags &&& s.port.mask).getLsbD n = false := by
    constructor
    · intro h n _
      rw [h, BitVec.getLsbD_zero]
    · intro h
      exact BitVec.eq_of_getLsbD_eq fun i hi => by rw [h i hi, BitVec.getLsbD_zero]
  unfold alertAsserted
  rw [bne_iff_ne, ne_eq, hzero]
  push Not
  simp only [BitVec.getLsbD_and, ne_eq, Bool.not_eq_false, Bool.and_eq_true]

theorem drivesPb_none {s : State} (h : s.loader.config = none ∨ s.link.inFlight = none) : drivesPb s = false := by
  unfold drivesPb
  split
  · rfl
  · rename_i c hc
    have hflight : s.link.inFlight = none := h.resolve_left (by rw [hc]; exact Option.some_ne_none c)
    simp [Link.sends, hflight]

/-- The level that a frame in flight gives the line (R16, R17). -/
theorem drivesPb_of_flight {c : Image} {f : InFlight} {s : State} (hc : s.loader.config = some c)
    (hf : s.link.inFlight = some f) :
    drivesPb s = !((frameBits f.frame).getD (s.timer.captureAge / c.bitTime) true) := by
  simp only [drivesPb, hc, Link.sends, hf]

theorem pbRecessive_iff (s : State) : pbRecessive s = true ↔ drivesPb s = false ∧ s.line.head? ≠ some false := by
  unfold pbRecessive
  cases s.line with
  | nil => simp
  | cons level rest => cases level <;> simp

/-- A reset leaves every output of the pins released or inactive, and CFG too (R16, R151, R156, R187, R198). -/
theorem pins_resetBy (cause : ResetCause) {txn : Txn} (htxn : ∀ n, txn ≠ .opened n) (s : State) :
    let t := resetBy cause txn s
    gaPin t = .highZ ∧ gbPin t = .highZ ∧ markHigh t = false ∧ alertAsserted t = false ∧ drivesPb t = false ∧
      sdoDriven t = false ∧ cfgReleased t = true := by
  refine ⟨rfl, rfl, rfl, by simp [alertAsserted, Port.reset], rfl, ?_, rfl⟩
  cases txn with
  | closed => rfl
  | ignored => rfl
  | opened n => exact absurd rfl (htxn n)

theorem atReset_ne_opened (txn : Txn) (n : Nat) : txn.atReset ≠ .opened n := by
  cases txn <;> exact nofun

/-- Settles O43. -/
theorem outputPinsFollowTheirConditions : Obligations.OutputPinsFollowTheirConditions := by
  intro s allowed
  have hga : gaActive s = true ↔ allowed ∧ s.gen.interval = some .ota := by
    rw [gaActive, Bool.and_eq_true, outputsAllowed_iff, beq_iff_eq]
  have hgb : gbActive s = true ↔ allowed ∧ s.gen.interval = some .otb := by
    rw [gbActive, Bool.and_eq_true, outputsAllowed_iff, beq_iff_eq]
  refine ⟨hga, hgb, fun hboth => ?_, fun hc => ⟨?_, ?_⟩,
    fun c hc => ⟨fun h => ?_, fun h => ?_, fun h => ?_, fun h => ?_⟩,
    alertAsserted_iff s, decide_eq_true_iff, drivesPb_none, fun hsound htx => ?_, fun c f hc hf => ⟨?_, ?_⟩,
    pbRecessive_iff s, fun ⟨n, hn⟩ => ?_, fun h => ?_, fun h => ?_, fun h => ?_, fun i hi => ?_⟩
  · have hota := (hga.mp hboth.1).2
    rw [(hgb.mp hboth.2).2] at hota
    cases hota
  · simp only [gaPin, hc]
  · simp only [gbPin, hc]
  · simp only [gaPin, hc, outLevel_eq, h, if_true]
  · simp [gaPin, hc, outLevel_eq, h]
  · simp only [gbPin, hc, outLevel_eq, h, if_true]
  · simp [gbPin, hc, outLevel_eq, h]
  · refine drivesPb_none (.inr ?_)
    rw [← Option.not_isSome_iff_eq_none]
    exact mt hsound.flight.mp htx
  · intro i bit hbit hlo hhi
    have hpos : 0 < c.bitTime := Nat.pos_of_ne_zero fun h => by simp [h] at hlo hhi
    have hage : s.timer.captureAge / c.bitTime = i := Nat.div_eq_of_lt_le hlo hhi
    rw [drivesPb_of_flight hc hf, hage, List.getD_eq_getElem?_getD, hbit]
    cases bit <;> simp
  · intro hpos hend
    have hover : (frameBits f.frame).length ≤ s.timer.captureAge / c.bitTime := (Nat.le_div_iff_mul_le hpos).mpr hend
    rw [drivesPb_of_flight hc hf, List.getD_eq_default _ _ hover]
    rfl
  · simp only [sdoDriven, hn]
  · rcases h with h | h <;> simp only [sdoDriven, h]
  · simp only [cfgReleased, h]
    rfl
  · simp only [List.mem_cons, List.not_mem_nil, or_false] at h
    rcases h with h | h | h | h <;> simp only [cfgReleased, h] <;> rfl
  · simp only [List.mem_cons, List.not_mem_nil, or_false] at hi
    rcases hi with rfl | rfl
    · exact ⟨_, rfl, pins_resetBy .power (atReset_ne_opened _) s⟩
    · exact ⟨_, rfl, pins_resetBy .pin (atReset_ne_opened _) s⟩

end Sys2Proof.Machine

/-! ### Transactions of the control port: how they run (R185 to R188) -/

namespace Sys2Proof.Machine

open Sys2Proof.Safety

/-! #### Bits and bytes -/

theorem byteBits_append (xs ys : List Byte) : byteBits (xs ++ ys) = byteBits xs ++ byteBits ys :=
  List.flatMap_append

theorem length_bytesOf (bits : List Bool) : (bytesOf bits).length = bits.length / 8 := by
  fun_induction bytesOf bits with
  | case1 b7 b6 b5 b4 b3 b2 b1 b0 rest ih =>
    simp only [List.length_cons, ih]
    omega
  | case2 bits h =>
    have hshort : bits.length < 8 := by
      by_contra hlong
      match bits, hlong with
      | b7 :: b6 :: b5 :: b4 :: b3 :: b2 :: b1 :: b0 :: rest, _ => exact h _ _ _ _ _ _ _ _ _ rfl
      | [], hl | [_], hl | [_, _], hl | [_, _, _], hl | [_, _, _, _], hl | [_, _, _, _, _], hl
      | [_, _, _, _, _, _], hl | [_, _, _, _, _, _, _], hl => simp at hl
    rw [List.length_nil, Nat.div_eq_of_lt hshort]

/-- Bits that agree with some go on agreeing when they are cut. -/
theorem agrees_of_append {xs ys zs : List Bool} (h : agrees xs (ys ++ zs) = true) : agrees xs ys = true := by
  induction xs generalizing ys with
  | nil => cases ys <;> rfl
  | cons x xs ih =>
    cases ys with
    | nil => rfl
    | cons y ys =>
      simp only [List.cons_append, agrees, Bool.and_eq_true] at h ⊢
      exact ⟨h.1, ih h.2⟩

/-- What agrees with a header agrees with its beginning. -/
theorem agrees_of_append_left {xs ys zs : List Bool} (h : agrees (xs ++ ys) zs = true) : agrees xs zs = true := by
  induction xs generalizing zs with
  | nil => cases zs <;> rfl
  | cons x xs ih =>
    cases zs with
    | nil => rfl
    | cons z zs =>
      simp only [List.cons_append, agrees, Bool.and_eq_true] at h ⊢
      exact ⟨h.1, ih h.2⟩

/-- Bits of the same number that agree are the same. -/
theorem eq_of_agrees {xs ys : List Bool} (h : agrees xs ys = true) (hlength : xs.length = ys.length) : xs = ys := by
  induction xs generalizing ys with
  | nil => exact (List.eq_nil_of_length_eq_zero hlength.symm).symm
  | cons x xs ih =>
    cases ys with
    | nil => exact absurd hlength (Nat.succ_ne_zero _)
    | cons y ys =>
      simp only [agrees, Bool.and_eq_true, beq_iff_eq] at h
      rw [h.1, ih h.2 (Nat.succ.inj hlength)]

/-! #### The bits shifted, apart from what the request does -/

/-- The state with byte n in progress and these bits shifted so far (R185). -/
def shifting (n : Nat) (sdi sdo : List Bool) (s : State) : State :=
  { s with port := { s.port with txn := .opened n, sdi := sdi, sdo := sdo } }

theorem clearCounter_shifting (n : Nat) (x y : List Bool) (s : State) (i : Nat) :
    clearCounter (shifting n x y s) i = shifting n x y (clearCounter s i) := by
  unfold clearCounter
  split <;> rfl

/-- An entry is read by the image, the current set and the roster alone. -/
theorem readEntry_of_port (s : State) (p : Port) (j : Station) : readEntry { s with port := p } j = readEntry s j := by
  unfold readEntry
  cases hconfig : s.loader.config with
  | none => rfl
  | some c =>
    dsimp only
    unfold takeSilence
    split_ifs <;> rfl

theorem copyEntry_shifting (n : Nat) (x y : List Bool) (s : State) :
    copyEntry (shifting n x y s) = shifting n x y (copyEntry s) := by
  have hread : ∀ j, readEntry (shifting n x y s) j = readEntry s j := readEntry_of_port s _
  unfold copyEntry
  rw [hread]
  rfl

/-- The copies of a response do not depend on the bits shifted. -/
theorem beginWork_shifting (k n : Nat) (x y : List Bool) (s : State) :
    beginWork k (shifting n x y s) = shifting n x y (beginWork k s) := by
  have hrequest : currentRequest (shifting n x y s) = currentRequest s := rfl
  unfold beginWork
  rw [hrequest]
  cases currentRequest s with
  | countersClear =>
    dsimp only
    split_ifs
    · exact clearCounter_shifting n x y (copyCounter (k / 2) s) (k / 2)
    · rfl
  | roster =>
    dsimp only
    split_ifs
    · exact copyEntry_shifting n x y s
    · rfl
  | status | align | counters | events =>
    dsimp only
    split_ifs <;> rfl
  | demand | alertMask | command | undefined => rfl

/-- What a later byte does does not depend on the bits shifted. -/
theorem completeWork_shifting (k n : Nat) (b : Byte) (x y : List Bool) (s : State) :
    completeWork (k + 1) b (shifting n x y s) = shifting n x y (completeWork (k + 1) b s) := by
  have hrequest : currentRequest (shifting n x y s) = currentRequest s := rfl
  unfold completeWork
  rw [hrequest, if_neg (Nat.succ_ne_zero k), if_neg (Nat.succ_ne_zero k)]
  split_ifs <;> rfl

/-! #### Whole bytes -/

/-- The state at the end of byte 0, but for the bits shifted: the request is open, and the response empty (R185). -/
def begun (code : Byte) (s : State) : State :=
  { s with port := { s.port with request := openRequest code, response := [] } }

/-- A later byte: its work as it begins, its bits, and its work as it completes (R185). -/
theorem clock_dataByte {k : Nat} {b : Byte} {x y : List Bool} (s : State) (hx : x.length = 8 * (k + 1))
    (hy : y.length = 8 * (k + 1)) :
    (byteBits [b]).foldl clockBit (shifting k x y s) =
      shifting (k + 1) (x ++ byteBits [b]) (y ++ byteBits [outByte (k + 1) (beginWork (k + 1) s)])
        (completeWork (k + 1) b (beginWork (k + 1) s)) := by
  have hbegin := beginWork_shifting (k + 1) (k + 1) x y s
  have hclock := clock_nextByte (s := shifting k x y s) (b := b) rfl hx hy
  rw [hclock]
  change completeWork (k + 1) b (withBits (x ++ byteBits [b])
    (y ++ byteBits [outByte (k + 1) (beginWork (k + 1) (shifting (k + 1) x y s))])
    (beginWork (k + 1) (shifting (k + 1) x y s))) = _
  rw [hbegin]
  exact completeWork_shifting k (k + 1) b (x ++ byteBits [b]) _ (beginWork (k + 1) s)

/-- A transaction that the fall of CP_CS# has opened on a port that is ready (R185, R186). -/
theorem openTxn_ready {s : State} (h : PortReady s) : openTxn s = shifting 0 [] [bitOf (statusByte s) 0]
    { s with port := { s.port with request := none, response := [statusByte s] } } := by
  have hclose : closeTxn s = s := by
    unfold closeTxn
    rw [h.closed]
  unfold openTxn
  rw [hclose, if_neg h.running]
  simp [present, outByte, shifting]

theorem clock_code {s : State} (h : PortReady s) (code : Byte) :
    (byteBits [code]).foldl clockBit (openTxn s) =
      shifting 0 (byteBits [code]) (byteBits [statusByte s]) (begun code s) := by
  rw [openTxn_ready h]
  exact clock_firstByte rfl rfl rfl

/-- The data bytes of a transaction, by what the request's work makes of the state after each. -/
theorem clock_dataBytes {bytes : List Byte} {x y : List Bool} {after : Nat → State} {out : Nat → Byte}
    (hx : x.length = 8) (hy : y.length = 8)
    (hstep : ∀ k b, bytes[k]? = some b → completeWork (k + 1) b (beginWork (k + 1) (after k)) = after (k + 1))
    (hout : ∀ k, outByte (k + 1) (beginWork (k + 1) (after k)) = out k) {n : Nat} (hn : n ≤ bytes.length) :
    (byteBits (bytes.take n)).foldl clockBit (shifting 0 x y (after 0)) =
      shifting n (x ++ byteBits (bytes.take n)) (y ++ byteBits ((List.range n).map out)) (after n) := by
  induction n with
  | zero => simp
  | succ n ih =>
    have hlt : n < bytes.length := hn
    have hb : bytes[n]? = some bytes[n] := List.getElem?_eq_getElem hlt
    have htake : bytes.take (n + 1) = bytes.take n ++ [bytes[n]] := List.take_succ_eq_append_getElem hlt
    rw [htake, byteBits_append, List.foldl_append, ih (Nat.le_of_lt hlt), clock_dataByte (after n), hout, hstep n _ hb,
      List.range_succ, List.map_append, byteBits_append, List.append_assoc, List.append_assoc]
    · rfl
    · rw [List.length_append, hx, length_byteBits, List.length_take, Nat.min_eq_left hlt.le]
      omega
    · rw [List.length_append, hy, length_byteBits, List.length_map, List.length_range]
      omega

/-- A whole transaction, by what the request's work makes of the state after each data byte (R185). -/
theorem transfer_whole {s : State} (h : PortReady s) {header bytes : List Byte} {code : Byte}
    (hheader : agrees (byteBits header) (byteBits (code :: bytes)) = true) {after : Nat → State} {out : Nat → Byte}
    (hzero : after 0 = begun code s)
    (hstep : ∀ k b, bytes[k]? = some b → completeWork (k + 1) b (beginWork (k + 1) (after k)) = after (k + 1))
    (hout : ∀ k, outByte (k + 1) (beginWork (k + 1) (after k)) = out k) :
    transfer header (whole (code :: bytes)) s = closeTxn (shifting bytes.length (byteBits (code :: bytes))
      (byteBits (statusByte s :: (List.range bytes.length).map out)) (after bytes.length)) := by
  have hclock : (byteBits (code :: bytes)).foldl clockBit (openTxn s) = shifting bytes.length (byteBits (code :: bytes))
      (byteBits (statusByte s :: (List.range bytes.length).map out)) (after bytes.length) := by
    have hdata := clock_dataBytes (x := byteBits [code]) (y := byteBits [statusByte s]) (length_byteBits _)
      (length_byteBits _) hstep hout (Nat.le_refl _)
    rw [List.take_length, hzero] at hdata
    rw [show code :: bytes = [code] ++ bytes from rfl, byteBits_append, List.foldl_append, clock_code h, hdata,
      ← byteBits_append]
    rfl
  unfold transfer
  rw [if_pos (show belongs header (whole (code :: bytes)) s = true from hheader)]
  exact congrArg closeTxn hclock

/-- The bits of a whole transaction agree with its own code. -/
theorem agrees_code (code : Byte) (bytes : List Byte) :
    agrees (byteBits [code]) (byteBits (code :: bytes)) = true := by
  rw [show code :: bytes = [code] ++ bytes from rfl, byteBits_append]
  exact agrees_append _ _

/-! #### The end of a transaction -/

/-- The state after CP_CS# rises on a transaction that does nothing at its end, with these bits shifted (R185). -/
def ended (sdi sdo : List Bool) (s : State) : State :=
  { s with port := { s.port with txn := .closed, request := none, sdi := sdi, sdo := sdo } }

theorem closeTxn_shifting {n : Nat} {x y : List Bool} {s t : State}
    (h : actAtEnd (shifting n x y s) = shifting n x y t) : closeTxn (shifting n x y s) = ended x y t := by
  have htxn : (shifting n x y s).port.txn = .opened n := rfl
  unfold closeTxn
  rw [htxn]
  dsimp only
  rw [h]
  rfl

theorem dataBytes_whole (n : Nat) (code : Byte) (bytes : List Byte) (y : List Bool) (s : State) :
    dataBytes (shifting n (byteBits (code :: bytes)) y s).port = bytes := by
  unfold dataBytes
  change (bytesOf (byteBits (code :: bytes))).drop 1 = bytes
  rw [bytesOf_byteBits]
  rfl

theorem portAfter_ended (s t : State) (code : Byte) (bytes shifted : List Byte) :
    PortAfter s (ended (byteBits (code :: bytes)) (byteBits (statusByte s :: shifted)) t) (code :: bytes) shifted :=
  ⟨rfl, rfl, rfl, rfl⟩

/-! #### Single edges of a transaction -/

/-- An open transaction between two periods of CP_SCK, with these bits taken since its start (R185). -/
structure AfterBits (bits : List Bool) (s : State) : Prop where
  txn : s.port.txn = .opened ((bits.length - 1) / 8)
  sdi : s.port.sdi = bits
  sdo : s.port.sdo.length = max bits.length 1

/-- An open transaction in a period of CP_SCK: the next bit stands on CP_SDO (R185). -/
structure Presented (bits : List Bool) (s : State) : Prop where
  txn : s.port.txn = .opened (bits.length / 8)
  sdi : s.port.sdi = bits
  sdo : s.port.sdo.length = bits.length + 1

theorem afterBits_openTxn {s : State} (h : (closeTxn s).loader.load ≠ .held) : AfterBits [] (openTxn s) := by
  unfold openTxn
  dsimp only
  rw [if_neg h]
  exact ⟨rfl, rfl, rfl⟩

/-- What a falling edge does between two periods: at the end of a byte the next one begins (R185). -/
theorem fallEdge_afterBits {bits : List Bool} {s : State} (h : AfterBits bits s) :
    (bits = [] ∧ fallEdge s = s) ∨
    (bits ≠ [] ∧ bits.length % 8 = 0 ∧ fallEdge s =
      present (beginWork (bits.length / 8) { s with port := { s.port with txn := .opened (bits.length / 8) } })) ∨
    (bits.length % 8 ≠ 0 ∧ fallEdge s = present s) := by
  have hsdo := h.sdo
  rw [← h.sdi] at hsdo
  cases bits with
  | nil =>
    refine .inl ⟨rfl, fallEdge_presented ?_⟩
    rw [h.sdi] at hsdo ⊢
    exact hsdo ▸ Nat.zero_lt_one
  | cons b bits =>
    have hlength : s.port.sdi.length = bits.length + 1 := by rw [h.sdi, List.length_cons]
    rw [Nat.max_eq_left (by omega)] at hsdo
    have htxn := h.txn
    rw [List.length_cons] at htxn ⊢
    right
    by_cases hbyte : (bits.length + 1) % 8 = 0
    · refine .inl ⟨List.cons_ne_nil _ _, hbyte, ?_⟩
      have hnext : (bits.length + 1 - 1) / 8 + 1 = (bits.length + 1) / 8 := by omega
      rw [fallEdge_next htxn (by omega) (by omega), hnext]
    · exact .inr ⟨hbyte, fallEdge_inside htxn hsdo (by omega)⟩

theorem presented_fallEdge {bits : List Bool} {s : State} (h : AfterBits bits s) : Presented bits (fallEdge s) := by
  have hsdo := h.sdo
  rcases fallEdge_afterBits h with ⟨rfl, hfall⟩ | ⟨hne, hbyte, hfall⟩ | ⟨hbyte, hfall⟩
  · rw [hfall]
    exact ⟨h.txn, h.sdi, hsdo⟩
  · have hpos : 0 < bits.length := List.length_pos_iff.mpr hne
    rw [Nat.max_eq_left (by omega)] at hsdo
    rw [hfall]
    exact ⟨by simp [present], by simpa [present] using h.sdi, by simpa [present] using hsdo⟩
  · have hpos : 0 < bits.length := Nat.pos_of_ne_zero fun h0 => hbyte (by rw [h0])
    rw [Nat.max_eq_left (by omega)] at hsdo
    rw [hfall]
    refine ⟨?_, h.sdi, by simpa [present] using hsdo⟩
    have hsame : (bits.length - 1) / 8 = bits.length / 8 := by omega
    exact h.txn.trans (by rw [hsame])

/-- A falling edge that comes twice presents one bit (log 8). -/
theorem fallEdge_of_presented {bits : List Bool} {s : State} (h : Presented bits s) : fallEdge s = s :=
  fallEdge_presented (by rw [h.sdi, h.sdo]; exact Nat.lt_succ_self _)

theorem completeWork_port (k : Nat) (b : Byte) (s : State) : (completeWork k b s).port.txn = s.port.txn ∧
    (completeWork k b s).port.sdi = s.port.sdi ∧ (completeWork k b s).port.sdo = s.port.sdo := by
  unfold completeWork
  split_ifs <;> exact ⟨rfl, rfl, rfl⟩

/-- What a rising edge does in a period: the last bit of a byte completes it (R185). -/
theorem riseEdge_presented {bits : List Bool} {s : State} (h : Presented bits s) (b : Bool) :
    riseEdge b s = if (bits.length + 1) % 8 = 0 then
        completeWork (bits.length / 8) ((bytesOf (bits ++ [b])).getLastD 0) (withBits (bits ++ [b]) s.port.sdo s)
      else withBits (bits ++ [b]) s.port.sdo s := by
  have hsdi := h.sdi
  split_ifs with hbyte
  · rw [riseEdge_last h.txn (by rw [hsdi]; exact hbyte), hsdi]
  · rw [riseEdge_inside h.txn (by rw [hsdi]; exact hbyte), hsdi]

theorem afterBits_riseEdge {bits : List Bool} {s : State} (h : Presented bits s) (b : Bool) :
    AfterBits (bits ++ [b]) (riseEdge b s) := by
  have hwith : AfterBits (bits ++ [b]) (withBits (bits ++ [b]) s.port.sdo s) := by
    refine ⟨?_, rfl, ?_⟩
    · simpa using h.txn
    · simpa using h.sdo
  rw [riseEdge_presented h]
  split_ifs
  · obtain ⟨htxn, hsdi, hsdo⟩ := completeWork_port (bits.length / 8) ((bytesOf (bits ++ [b])).getLastD 0)
      (withBits (bits ++ [b]) s.port.sdo s)
    exact ⟨htxn.trans hwith.txn, hsdi.trans hwith.sdi, (congrArg _ hsdo).trans hwith.sdo⟩
  · exact hwith

theorem afterBits_clock {s : State} (h : AfterBits [] s) (bits : List Bool) :
    AfterBits bits (bits.foldl clockBit s) := by
  induction bits using List.reverseRecOn with
  | nil => exact h
  | append_singleton bits b ih =>
    rw [List.foldl_append]
    exact afterBits_riseEdge (presented_fallEdge ih) b

/-! #### What no edge of a transaction changes -/

/-- Two states that differ in the transaction's own bits alone. -/
def OtherBits (s t : State) : Prop :=
  t = { s with port := { s.port with txn := t.port.txn, sdi := t.port.sdi, sdo := t.port.sdo } }

/-- A property of the state that every edge of a transaction of at most `most` bits with this code keeps: what it says
is not of the bits, and the work as a byte begins or completes keeps it (R185, R188). -/
structure EdgesKeep (code : Byte) (most : Nat) (P : State → Prop) : Prop where
  bits : ∀ {s t}, OtherBits s t → P s → P t
  begins : ∀ {k s}, 8 * (k + 1) ≤ most → P s → P (beginWork (k + 1) s)
  selects : ∀ {s}, P s → P (completeWork 0 code s)
  completes : ∀ {k s} (b : Byte), 8 * (k + 2) ≤ most → P s → P (completeWork (k + 1) b s)

theorem EdgesKeep.fallEdge {code : Byte} {most : Nat} {P : State → Prop} (hP : EdgesKeep code most P)
    {bits : List Bool} {s : State} (h : AfterBits bits s) (hmost : bits.length ≤ most) (hs : P s) :
    P (Machine.fallEdge s) := by
  rcases fallEdge_afterBits h with ⟨rfl, hfall⟩ | ⟨hne, hbyte, hfall⟩ | ⟨hbyte, hfall⟩
  · rw [hfall]
    exact hs
  · have hpos : 0 < bits.length := List.length_pos_iff.mpr hne
    obtain ⟨k, hk⟩ : ∃ k, bits.length / 8 = k + 1 := ⟨bits.length / 8 - 1, by omega⟩
    rw [hfall, hk]
    exact hP.bits rfl (hP.begins (by omega) (hP.bits rfl hs))
  · rw [hfall]
    exact hP.bits rfl hs

theorem EdgesKeep.riseEdge {code : Byte} {most : Nat} {P : State → Prop} (hP : EdgesKeep code most P)
    {bits : List Bool} {b : Bool} {s : State} (h : Presented bits s)
    (hcode : agrees (byteBits [code]) (bits ++ [b]) = true) (hmost : bits.length + 1 ≤ most) (hs : P s) :
    P (Machine.riseEdge b s) := by
  have hwith : P (withBits (bits ++ [b]) s.port.sdo s) := hP.bits rfl hs
  rw [riseEdge_presented h]
  split_ifs with hbyte
  · rcases Nat.eq_zero_or_pos (bits.length / 8) with hzero | hpos
    · have hbits : byteBits [code] = bits ++ [b] :=
        eq_of_agrees hcode (by
          rw [length_byteBits, List.length_append, List.length_singleton, List.length_singleton]
          omega)
      rw [hzero, ← hbits, bytesOf_byteBits]
      rw [← hbits] at hwith
      exact hP.selects hwith
    · obtain ⟨k, hk⟩ : ∃ k, bits.length / 8 = k + 1 := ⟨bits.length / 8 - 1, by omega⟩
      rw [hk]
      exact hP.completes _ (by omega) hwith
  · exact hwith

/-- What every edge keeps, the bits of a transaction keep. -/
theorem EdgesKeep.clock {code : Byte} {most : Nat} {P : State → Prop} (hP : EdgesKeep code most P) {s : State}
    (h : AfterBits [] s) (hs : P s) {bits : List Bool} (hcode : agrees (byteBits [code]) bits = true)
    (hmost : bits.length ≤ most) : P (bits.foldl clockBit s) := by
  induction bits using List.reverseRecOn with
  | nil => exact hs
  | append_singleton bits b ih =>
    rw [List.length_append, List.length_singleton] at hmost
    have hkept := ih (agrees_of_append hcode) (by omega)
    have hafter := afterBits_clock h bits
    rw [List.foldl_append]
    exact hP.riseEdge (presented_fallEdge hafter) hcode hmost (hP.fallEdge hafter (by omega) hkept)

/-- A transaction of few data bytes does nothing at its end (R185, R188). -/
theorem actAtEnd_of_few {s : State} (h : (dataBytes s.port).length < 2)
    (hcommand : currentRequest s ≠ .command ∨ dataBytes s.port = []) : actAtEnd s = s := by
  unfold actAtEnd
  split
  case h_4 b rest hreq hdata =>
    rcases hcommand with hc | hc
    · exact absurd hreq hc
    · rw [hc] at hdata
      cases hdata
  case h_5 => rfl
  all_goals
    rename_i hdata
    rw [hdata] at h
    simp at h

theorem length_dataBytes {bits : List Bool} {s : State} (h : AfterBits bits s) :
    (dataBytes s.port).length = bits.length / 8 - 1 := by
  rw [dataBytes, h.sdi, List.length_drop, length_bytesOf]

/-- Bits that agree with a header agree with its code. -/
theorem agrees_code_of_header {code : Byte} {header : List Byte} {bits : List Bool}
    (h : agrees (byteBits (code :: header)) bits = true) : agrees (byteBits [code]) bits = true := by
  rw [show code :: header = [code] ++ header from rfl, byteBits_append] at h
  exact agrees_of_append_left h

/-- A whole transaction of few bits ends with nothing done, and keeps what its edges keep (R185). -/
theorem transfer_few {s : State} (hready : PortReady s) {code : Byte} {header : List Byte} {bits : List Bool}
    {P : State → Prop} (hP : EdgesKeep code bits.length P)
    (hopen : P { s with port := { s.port with request := none, response := [statusByte s] } })
    (hheader : agrees (byteBits (code :: header)) bits = true)
    (hfew : bits.length < 16 ∨ bits.length < 24 ∧ ∀ u, P u → currentRequest u ≠ .command) :
    ∃ u, transfer (code :: header) ⟨true, bits, false, true⟩ s = { u with port := u.port.close } ∧ P u := by
  have hcode := agrees_code_of_header hheader
  have hopened : AfterBits [] (openTxn s) := by
    rw [openTxn_ready hready]
    exact ⟨rfl, rfl, rfl⟩
  have hkept : P (bits.foldl clockBit (openTxn s)) :=
    hP.clock hopened (by rw [openTxn_ready hready]; exact hP.bits rfl hopen) hcode (Nat.le_refl _)
  have hafter := afterBits_clock hopened bits
  have hlength := length_dataBytes hafter
  have hact : actAtEnd (bits.foldl clockBit (openTxn s)) = bits.foldl clockBit (openTxn s) := by
    refine actAtEnd_of_few (by omega) ?_
    rcases hfew with hfew | ⟨_, hrequest⟩
    · exact .inr (List.eq_nil_of_length_eq_zero (by omega))
    · exact .inl (hrequest _ hkept)
  refine ⟨_, ?_, hkept⟩
  have hclose : closeTxn (bits.foldl clockBit (openTxn s)) = { bits.foldl clockBit (openTxn s) with
      port := (bits.foldl clockBit (openTxn s)).port.close } := by
    unfold closeTxn
    rw [hafter.txn]
    dsimp only
    rw [hact]
  unfold transfer
  rw [if_pos (show belongs (code :: header) ⟨true, bits, false, true⟩ s = true from hheader)]
  exact hclose

end Sys2Proof.Machine

/-! ### DEMAND WRITE, ALERT MASK WRITE, undefined requests and EVENTS READ-AND-CLEAR (R185, R189, R190, R195, R197) -/

namespace Sys2Proof.Machine

open Sys2Proof.Safety

/-! #### The open request -/

@[simp] theorem currentRequest_begun (code : Byte) (s : State) : currentRequest (begun code s) = requestOf code := by
  have hrequest : (begun code s).port.request = openRequest code := rfl
  unfold currentRequest
  rw [hrequest, openRequest]
  split_ifs with h
  · exact h.symm
  · rfl

/-- The request field holds nothing yet, or this code. -/
def RequestIs (code : Byte) (s : State) : Prop :=
  s.port.request = none ∨ s.port.request = some code

theorem currentRequest_cases {code : Byte} {s : State} (h : RequestIs code s) :
    currentRequest s = .undefined ∨ currentRequest s = requestOf code := by
  unfold currentRequest
  rcases h with h | h
  · exact .inl (by rw [h])
  · exact .inr (by rw [h])

theorem requestIs_selected (code : Byte) (s : State) : RequestIs code (completeWork 0 code s) := by
  have hrequest : (completeWork 0 code s).port.request = openRequest code := rfl
  unfold RequestIs
  rw [hrequest, openRequest]
  split_ifs
  · exact .inl rfl
  · exact .inr rfl

/-- A later byte matters to ROSTER READ alone (R194). -/
theorem completeWork_of_not_roster {s : State} (h : currentRequest s ≠ .roster) (k : Nat) (b : Byte) :
    completeWork (k + 1) b s = s := by
  unfold completeWork
  rw [if_neg (Nat.succ_ne_zero k), if_neg fun hr => h hr.1]

/-- The requests that shift out 00h and act at the end alone. -/
def Request.silent : Request → Bool
  | .demand | .alertMask | .command | .undefined => true
  | _ => false

theorem beginWork_of_silent {s : State} (h : (currentRequest s).silent = true) (k : Nat) : beginWork k s = s := by
  unfold beginWork
  cases hrequest : currentRequest s with
  | demand | alertMask | command | undefined => rfl
  | status | align | counters | countersClear | roster | events =>
    rw [hrequest] at h
    exact Bool.noConfusion h

theorem completeWork_of_silent {s : State} (h : (currentRequest s).silent = true) (k : Nat) (b : Byte) :
    completeWork (k + 1) b s = s :=
  completeWork_of_not_roster (fun hr => by rw [hr] at h; exact Bool.noConfusion h) k b

theorem outByte_of_silent {s : State} (h : (currentRequest s).silent = true) (k : Nat) : outByte (k + 1) s = 0#8 := by
  unfold outByte dataByte
  rw [if_neg (Nat.succ_ne_zero k)]
  cases hrequest : currentRequest s with
  | demand | alertMask | command | undefined => rfl
  | status | align | counters | countersClear | roster | events =>
    rw [hrequest] at h
    exact Bool.noConfusion h

/-- A whole transaction of a request that shifts out 00h (R185, R188). -/
theorem transfer_silent {s : State} (h : PortReady s) {header bytes : List Byte} {code : Byte}
    (hheader : agrees (byteBits header) (byteBits (code :: bytes)) = true) (hcode : (requestOf code).silent = true) :
    transfer header (whole (code :: bytes)) s = closeTxn (shifting bytes.length (byteBits (code :: bytes))
      (byteBits (statusByte s :: List.replicate bytes.length 0#8)) (begun code s)) := by
  have hsilent : (currentRequest (begun code s)).silent = true := by rw [currentRequest_begun, hcode]
  have hwhole := transfer_whole h hheader (after := fun _ => begun code s) (out := fun _ => 0#8) rfl
    (fun k b _ => by rw [beginWork_of_silent hsilent, completeWork_of_silent hsilent])
    (fun k => by rw [beginWork_of_silent hsilent, outByte_of_silent hsilent])
  rw [List.map_const', List.length_range] at hwhole
  exact hwhole

/-! #### What a request may change -/

theorem sameStation_refl (s : State) : SameStation s s := ⟨rfl, rfl, rfl, rfl, rfl, rfl, rfl, rfl, rfl, rfl, rfl⟩

theorem sameStation_withPort {s t : State} (h : SameStation s t) (p : Port) : SameStation s { t with port := p } :=
  ⟨h.timer, h.link, h.roster, h.align, h.member, h.plan, h.gen, h.mon, h.loader, h.line, h.pending⟩

theorem next_congr {s t : State} (h : s = t) : (.next s : Result) = .next t := congrArg _ h

/-- The fields of the port that a transaction keeps until its end, where it clears, writes or records. -/
structure SamePort (p q : Port) : Prop where
  rosterPtr : q.rosterPtr = p.rosterPtr
  flags : q.flags = p.flags
  marks : q.marks = p.marks
  mask : q.mask = p.mask
  result : q.result = p.result

/-- A transaction of a request that shifts out 00h has changed nothing but its own bits. -/
structure Quiet (code : Byte) (s t : State) : Prop where
  station : SameStation s t
  port : SamePort s.port t.port
  request : RequestIs code t

theorem Quiet.silent {code : Byte} {s t : State} (h : Quiet code s t) (hcode : (requestOf code).silent = true) :
    (currentRequest t).silent = true := by
  rcases currentRequest_cases h.request with hr | hr <;> rw [hr]
  · rfl
  · exact hcode

theorem edgesKeep_quiet {code : Byte} (hcode : (requestOf code).silent = true) (most : Nat) (s : State) :
    EdgesKeep code most (Quiet code s) where
  bits := by
    intro t u hbits h
    rw [hbits]
    exact ⟨sameStation_withPort h.station _,
      ⟨h.port.rosterPtr, h.port.flags, h.port.marks, h.port.mask, h.port.result⟩, h.request⟩
  begins := by
    intro k t _ h
    rw [beginWork_of_silent (h.silent hcode)]
    exact h
  selects := by
    intro t h
    exact ⟨sameStation_withPort h.station _, ⟨h.port.rosterPtr, h.port.flags, h.port.marks, h.port.mask, h.port.result⟩,
      requestIs_selected code t⟩
  completes := by
    intro k t b _ h
    rw [completeWork_of_silent (h.silent hcode)]
    exact h

theorem quiet_opened (code : Byte) (s : State) (response : List Byte) :
    Quiet code s { s with port := { s.port with request := none, response := response } } :=
  ⟨sameStation_withPort (sameStation_refl s) _, ⟨rfl, rfl, rfl, rfl, rfl⟩, .inl rfl⟩

/-- A transaction of a request that shifts out 00h ends with nothing done where its data bytes are too few (R185). -/
theorem transfer_quiet {s : State} (hready : PortReady s) {code : Byte} {header : List Byte} {bits : List Bool}
    (hcode : (requestOf code).silent = true) (hheader : agrees (byteBits (code :: header)) bits = true)
    (hfew : bits.length < 16 ∨ bits.length < 24 ∧ requestOf code ≠ .command) :
    ∃ t, transfer (code :: header) ⟨true, bits, false, true⟩ s = t ∧ SameStation s t ∧ SamePort s.port t.port ∧
      t.port.txn = .closed := by
  obtain ⟨u, htransfer, hquiet⟩ := transfer_few hready (edgesKeep_quiet hcode bits.length s) (quiet_opened code s _)
    hheader (hfew.imp_right fun hfew => ⟨hfew.1, fun u hu hc => by
      rcases currentRequest_cases hu.request with hr | hr
      · rw [hr] at hc
        cases hc
      · exact hfew.2 (hr.symm.trans hc)⟩)
  exact ⟨_, htransfer, sameStation_withPort hquiet.station _,
    ⟨hquiet.port.rosterPtr, hquiet.port.flags, hquiet.port.marks, hquiet.port.mask, hquiet.port.result⟩, rfl⟩

/-! #### The end of a transaction, by its request (R185, R188) -/

/-- The requests that act at the end of their transaction (R188). -/
def Request.acts : Request → Bool
  | .demand | .alertMask | .events | .command => true
  | _ => false

theorem actAtEnd_of_reads {s : State} (h : (currentRequest s).acts = false) : actAtEnd s = s := by
  unfold actAtEnd
  split
  case h_5 => rfl
  all_goals
    rename_i hrequest _
    rw [hrequest] at h
    cases h

theorem actAtEnd_demand {s : State} {b1 b2 : Byte} {rest : List Byte} (h : currentRequest s = .demand)
    (hdata : dataBytes s.port = b1 :: b2 :: rest) : actAtEnd s = writeDemand (writtenWord b1 b2) s := by
  unfold actAtEnd
  rw [h, hdata]

theorem actAtEnd_alertMask {s : State} {b1 b2 : Byte} {rest : List Byte} (h : currentRequest s = .alertMask)
    (hdata : dataBytes s.port = b1 :: b2 :: rest) : actAtEnd s = writeMask (writtenWord b1 b2) s := by
  unfold actAtEnd
  rw [h, hdata]

theorem actAtEnd_events {s : State} {b1 b2 : Byte} {rest : List Byte} (h : currentRequest s = .events)
    (hdata : dataBytes s.port = b1 :: b2 :: rest) : actAtEnd s = clearEvents (writtenWord b1 b2) s := by
  unfold actAtEnd
  rw [h, hdata]

theorem actAtEnd_command {s : State} {b : Byte} {rest : List Byte} (h : currentRequest s = .command)
    (hdata : dataBytes s.port = b :: rest) : actAtEnd s = runCommand b s := by
  unfold actAtEnd
  rw [h, hdata]

theorem currentRequest_shifting {n : Nat} {x y : List Bool} {s : State} {r : Request} (h : currentRequest s = r) :
    currentRequest (shifting n x y s) = r := h

/-! #### DEMAND WRITE (R189) -/

theorem toNat_writtenWord (b1 b2 : Byte) : (writtenWord b1 b2).toNat = 256 * b1.toNat + b2.toNat := by
  unfold writtenWord
  rw [BitVec.toNat_append, ← Nat.shiftLeft_add_eq_or_of_lt b2.isLt, Nat.shiftLeft_eq, Nat.mul_comm]

/-- Settles O50. -/
theorem demandWriteStagesTwelveBits : Obligations.DemandWriteStagesTwelveBits := by
  intro s hready
  constructor
  · intro b1 b2 rest
    have hexec := transfer_silent hready (agrees_code 0x11#8 (b1 :: b2 :: rest)) rfl
    rw [closeTxn_shifting (t := writeDemand (writtenWord b1 b2) (begun 0x11#8 s))
      (actAtEnd_demand (currentRequest_shifting (currentRequest_begun _ s)) (dataBytes_whole _ _ _ _ _))] at hexec
    refine ⟨_, next_congr hexec, ?_, rfl, rfl, portAfter_ended _ _ _ _ _, rfl⟩
    change ((writtenWord b1 b2).setWidth 12).toNat = _
    rw [BitVec.toNat_setWidth, toNat_writtenWord]
  · intro bits hfew hcode
    obtain ⟨t, ht, hstation, hport, _⟩ := transfer_quiet hready (code := 0x11#8) rfl hcode (.inr ⟨hfew, by decide⟩)
    exact ⟨t, next_congr ht, hstation, hport.result, hport.flags⟩

/-! #### ALERT MASK WRITE and undefined requests (R190, R185, R195) -/

theorem requestOf_of_unknown {code : Byte} (h : WellFormed.requestCodes.contains code = false) :
    requestOf code = .undefined := by
  simp only [WellFormed.requestCodes, List.contains_cons, List.contains_nil, Bool.or_false, Bool.or_eq_false_iff,
    beq_eq_false_iff_ne, ne_eq] at h
  simp only [requestOf, h, if_false]

theorem runCommand_of_unknown {b : Byte} (h : WellFormed.commandBytes.contains b = false) (s : State) :
    runCommand b s = s := by
  simp only [WellFormed.commandBytes, List.contains_cons, List.contains_nil, Bool.or_false, Bool.or_eq_false_iff,
    beq_eq_false_iff_ne, ne_eq] at h
  simp only [runCommand, h, if_false]

/-- A code of no request, or a command byte of no command, does nothing at the end (R185, R195). -/
theorem actAtEnd_undefined {code : Byte} {bytes : List Byte}
    (h : WellFormed.undefinedRequest code (whole (code :: bytes)) = true) (n : Nat) (y : List Bool) (s : State) :
    (requestOf code).silent = true ∧ actAtEnd (shifting n (byteBits (code :: bytes)) y (begun code s)) =
      shifting n (byteBits (code :: bytes)) y (begun code s) := by
  have hrequest : currentRequest (shifting n (byteBits (code :: bytes)) y (begun code s)) = requestOf code :=
    currentRequest_begun code s
  cases hcode : WellFormed.requestCodes.contains code with
  | false =>
    rw [requestOf_of_unknown hcode] at hrequest ⊢
    exact ⟨rfl, actAtEnd_of_reads (by rw [hrequest]; rfl)⟩
  | true =>
    have hdrop : (byteBits (code :: bytes)).drop 8 = byteBits bytes := by
      rw [byteBits_cons, List.drop_append_of_le_length (by simp), List.drop_eq_nil_of_le (by simp), List.nil_append]
    simp only [WellFormed.undefinedRequest, whole, hcode, hdrop, bytesOf_byteBits, Bool.not_true, Bool.false_or,
      Bool.and_eq_true, beq_iff_eq] at h
    obtain ⟨rfl, hbytes⟩ := h
    have hdata := dataBytes_whole n 0x21#8 bytes y (begun 0x21#8 s)
    refine ⟨rfl, ?_⟩
    cases bytes with
    | nil => exact actAtEnd_of_few (by rw [hdata]; decide) (.inr hdata)
    | cons b rest =>
      rw [actAtEnd_command hrequest hdata]
      exact runCommand_of_unknown (by simpa using hbytes) _

/-- Settles O51. -/
theorem maskWriteAndUndefinedRequests : Obligations.MaskWriteAndUndefinedRequests := by
  intro s hready
  refine ⟨fun b1 b2 rest => ?_, fun bits hfew hcode => ?_, fun code bytes hundefined => ?_⟩
  · have hexec := transfer_silent hready (agrees_code 0x12#8 (b1 :: b2 :: rest)) rfl
    rw [closeTxn_shifting (t := writeMask (writtenWord b1 b2) (begun 0x12#8 s))
      (actAtEnd_alertMask (currentRequest_shifting (currentRequest_begun _ s)) (dataBytes_whole _ _ _ _ _))] at hexec
    exact ⟨_, next_congr hexec, sameStation_withPort (sameStation_refl s) _, portAfter_ended _ _ _ _ _,
      toNat_writtenWord b1 b2, rfl, rfl, rfl⟩
  · obtain ⟨t, ht, hstation, hport, _⟩ := transfer_quiet hready (code := 0x12#8) rfl hcode (.inr ⟨hfew, by decide⟩)
    exact ⟨t, next_congr ht, hstation, hport.mask, hport.flags, hport.result⟩
  · have hact := fun y => actAtEnd_undefined hundefined bytes.length y s
    have hexec := transfer_silent hready (agrees_code code bytes) (hact []).1
    rw [closeTxn_shifting (hact _).2] at hexec
    exact ⟨_, next_congr hexec, sameStation_withPort (sameStation_refl s) _, portAfter_ended _ _ _ _ _,
      rfl, rfl, rfl, rfl, rfl⟩

/-! #### EVENTS READ-AND-CLEAR (R197) -/

/-- What EVENTS READ-AND-CLEAR keeps until its end: it takes the snapshot alone. -/
structure OnlySnapshot (s t : State) : Prop where
  station : SameStation s t
  flags : t.port.flags = s.port.flags
  request : RequestIs 0x05#8 t

theorem beginWork_events {s : State} (h : currentRequest s = .events) (k : Nat) :
    beginWork k s = if k = 1 then snapshot s else s := by
  unfold beginWork
  rw [h]

theorem edgesKeep_onlySnapshot (most : Nat) (s : State) : EdgesKeep 0x05#8 most (OnlySnapshot s) where
  bits := by
    intro t u hbits h
    rw [hbits]
    exact ⟨sameStation_withPort h.station _, h.flags, h.request⟩
  begins := by
    intro k t _ h
    rcases currentRequest_cases h.request with hr | hr
    · rw [beginWork_of_silent (by rw [hr]; rfl)]
      exact h
    · rw [beginWork_events hr]
      split_ifs
      · exact ⟨sameStation_withPort h.station _, h.flags, h.request⟩
      · exact h
  selects := by
    intro t h
    exact ⟨sameStation_withPort h.station _, h.flags, requestIs_selected _ t⟩
  completes := by
    intro k t b _ h
    rw [completeWork_of_not_roster]
    · exact h
    · rcases currentRequest_cases h.request with hr | hr <;> rw [hr] <;> decide

/-- The state after n data bytes of EVENTS READ-AND-CLEAR, but for the bits shifted. -/
def eventsAfter (s : State) : Nat → State
  | 0 => begun 0x05#8 s
  | _ + 1 => snapshot (begun 0x05#8 s)

theorem currentRequest_eventsAfter (s : State) (n : Nat) : currentRequest (eventsAfter s n) = .events := by
  cases n <;> exact currentRequest_begun 0x05#8 s

theorem beginWork_eventsAfter (s : State) (n : Nat) : beginWork (n + 1) (eventsAfter s n) = eventsAfter s (n + 1) := by
  rw [beginWork_events (currentRequest_eventsAfter s n)]
  cases n <;> rfl

theorem map_getD_word16 (v : BitVec 16) (n : Nat) : (List.range (n + 2)).map (fun k => (word16 v).getD k 0#8) =
    v.extractLsb' 8 8 :: v.extractLsb' 0 8 :: List.replicate n 0#8 := by
  rw [List.range_succ_eq_map, List.range_succ_eq_map]
  simp [word16, Function.comp_def]

/-- A clear of marked flags, where the marks are the flags, takes the flags of its mask. -/
theorem and_not_and_self {w : Nat} (x v : BitVec w) : x &&& ~~~(v &&& x) = x &&& ~~~v := by
  ext i
  simp only [BitVec.getElem_and, BitVec.getElem_not]
  cases x[i] <;> cases v[i] <;> rfl

/-- Settles O49. -/
theorem eventsReadAndClearKeepsLaterRaises : Obligations.EventsReadAndClearKeepsLaterRaises := by
  intro s
  refine ⟨fun hready b1 b2 rest => ?_, fun hready bits hfew hcode => ?_, fun k b1 b2 rest htxn hrequest hsdi => ?_,
    fun e => ⟨getLsbD_raise_self s.port e, ?_⟩⟩
  · have hexec := transfer_whole hready (agrees_code 0x05#8 (b1 :: b2 :: rest)) (after := eventsAfter s)
      (out := fun k => (word16 s.port.flags).getD k 0#8) rfl
      (fun k b _ => by
        rw [beginWork_eventsAfter, completeWork_of_not_roster (by rw [currentRequest_eventsAfter]; decide)])
      (fun k => by
        rw [beginWork_eventsAfter, outByte, if_neg (Nat.succ_ne_zero k), dataByte, currentRequest_eventsAfter]
        rfl)
    rw [closeTxn_shifting (s := eventsAfter s (b1 :: b2 :: rest).length)
      (t := clearEvents (writtenWord b1 b2) (snapshot (begun 0x05#8 s)))
      (actAtEnd_events (currentRequest_shifting (currentRequest_eventsAfter s _)) (dataBytes_whole _ _ _ _ _))] at hexec
    refine ⟨_, next_congr hexec, sameStation_withPort (sameStation_refl s) _, ⟨rfl, rfl, rfl,
      congrArg (fun l => byteBits (statusByte s :: l)) (map_getD_word16 s.port.flags rest.length)⟩,
      and_not_and_self _ _, rfl, rfl⟩
  · obtain ⟨u, htransfer, hkept⟩ := transfer_few hready (edgesKeep_onlySnapshot bits.length s)
      ⟨sameStation_withPort (sameStation_refl s) _, rfl, .inl rfl⟩ hcode (.inr ⟨hfew, fun u hu => by
        rcases currentRequest_cases hu.request with hr | hr <;> rw [hr] <;> decide⟩)
    exact ⟨_, next_congr htransfer, sameStation_withPort hkept.station _, hkept.flags⟩
  · have hbelongs : belongs [0x05#8] ⟨false, [], false, true⟩ s = true := by
      unfold belongs
      rw [if_neg Bool.false_ne_true, htxn]
      dsimp only
      rw [List.append_nil, hsdi]
      exact agrees_code _ _
    have hact : actAtEnd s = clearEvents (writtenWord b1 b2) s := by
      have hcurrent : currentRequest s = .events := by
        unfold currentRequest
        rw [hrequest]
        rfl
      have hdata : dataBytes s.port = b1 :: b2 :: rest := by
        rw [dataBytes, hsdi, bytesOf_byteBits]
        rfl
      unfold actAtEnd
      rw [hcurrent, hdata]
    have hclose : closeTxn s = { clearEvents (writtenWord b1 b2) s with
        port := (clearEvents (writtenWord b1 b2) s).port.close } := by
      unfold closeTxn
      rw [htxn]
      dsimp only
      rw [hact]
    have htransfer : transfer [0x05#8] ⟨false, [], false, true⟩ s = closeTxn s := by
      unfold transfer
      rw [if_pos hbelongs]
      rfl
    exact next_congr (htransfer.trans hclose)
  · change (s.port.marks &&& ~~~eventBit e).getLsbD (eventNumber e) = false
    cases e <;> simp [eventBit, eventNumber]

end Sys2Proof.Machine

/-! ### STATUS READ, ALIGN READ, COUNTERS READ and ROSTER READ (R186, R191 to R194, R199) -/

namespace Sys2Proof.Machine

open Sys2Proof.Safety

/-! #### Records copied whole (R191, R192) -/

/-- The state after n data bytes of a request that copies this record as byte 1 begins, but for the bits shifted. -/
def recordAfter (code : Byte) (record : List Byte) (s : State) : Nat → State
  | 0 => begun code s
  | _ + 1 => respond record (begun code s)

theorem currentRequest_recordAfter (code : Byte) (record : List Byte) (s : State) (n : Nat) :
    currentRequest (recordAfter code record s n) = requestOf code := by
  cases n <;> exact currentRequest_begun code s

/-- The requests that copy a record whole as byte 1 begins, and the record (R188). -/
def wholeRecord : Request → Option (State → List Byte)
  | .status => some statusRecord
  | .align => some alignRecord
  | _ => none

theorem beginWork_of_wholeRecord {s : State} {record : State → List Byte}
    (h : wholeRecord (currentRequest s) = some record) (k : Nat) :
    beginWork k s = if k = 1 then respond (record s) s else s := by
  unfold beginWork
  cases hrequest : currentRequest s <;> rw [hrequest] at h <;> cases h <;> rfl

theorem dataByte_of_wholeRecord {s : State} {record : State → List Byte}
    (h : wholeRecord (currentRequest s) = some record) (k : Nat) : dataByte (k + 1) s = s.port.response.getD k 0 := by
  unfold dataByte
  cases hrequest : currentRequest s <;> rw [hrequest] at h <;> cases h <;> rfl

/-- A whole transaction that copies a record as byte 1 begins (R191, R192). -/
theorem transfer_record {s : State} (hready : PortReady s) {code : Byte} {record : State → List Byte}
    (hrecord : wholeRecord (requestOf code) = some record) (hsame : record (begun code s) = record s)
    (bytes : List Byte) : transfer [code] (whole (code :: bytes)) s =
      ended (byteBits (code :: bytes))
        (byteBits (statusByte s :: (List.range bytes.length).map fun k => (record s).getD k 0))
        (recordAfter code (record s) s bytes.length) := by
  have hrequest : ∀ n, wholeRecord (currentRequest (recordAfter code (record s) s n)) = some record := fun n => by
    rw [currentRequest_recordAfter, hrecord]
  have hbegin : ∀ n, beginWork (n + 1) (recordAfter code (record s) s n) = recordAfter code (record s) s (n + 1) := by
    intro n
    rw [beginWork_of_wholeRecord (hrequest n)]
    cases n with
    | zero => exact congrArg (fun l => respond l (begun code s)) hsame
    | succ n => rfl
  have hwhole := transfer_whole hready (agrees_code code bytes) (after := recordAfter code (record s) s)
    (out := fun k => (record s).getD k 0) rfl
    (fun k b _ => by
      rw [hbegin, completeWork_of_not_roster]
      intro hroster
      have hr := hrequest (k + 1)
      rw [hroster] at hr
      cases hr)
    (fun k => by
      rw [hbegin, outByte, if_neg (Nat.succ_ne_zero k), dataByte_of_wholeRecord (hrequest (k + 1))]
      rfl)
  rw [hwhole]
  refine closeTxn_shifting ?_
  refine actAtEnd_of_reads ?_
  rw [show currentRequest (shifting _ _ _ (recordAfter code (record s) s bytes.length)) = requestOf code from
    currentRequest_recordAfter code _ s _]
  cases hcode : requestOf code with
  | status | align => rfl
  | counters | countersClear | roster | events | demand | alertMask | command | undefined =>
    rw [hcode] at hrecord
    cases hrecord

theorem recordAfter_port (code : Byte) (record : List Byte) (s : State) (n : Nat) :
    SameStation s (recordAfter code record s n) ∧ SamePort s.port (recordAfter code record s n).port := by
  cases n <;> exact ⟨sameStation_withPort (sameStation_refl s) _, ⟨rfl, rfl, rfl, rfl, rfl⟩⟩

/-- What a read of a whole record shows and leaves (R186, R191, R192). -/
theorem reads_record {s : State} (hready : PortReady s) {code : Byte} {record : State → List Byte}
    (hrecord : wholeRecord (requestOf code) = some record) (hsame : record (begun code s) = record s)
    (bytes spelled : List Byte) (hspelled : record s = spelled) :
    ∃ t, transfer [code] (whole (code :: bytes)) s = t ∧ SameStation s t ∧
      PortAfter s t (code :: bytes) ((List.range bytes.length).map fun k => spelled.getD k 0) ∧
      t.port.flags = s.port.flags ∧ t.port.marks = s.port.marks ∧ t.port.mask = s.port.mask ∧
      t.port.result = s.port.result ∧ t.port.rosterPtr = s.port.rosterPtr := by
  obtain ⟨hstation, hport⟩ := recordAfter_port code (record s) s bytes.length
  refine ⟨_, transfer_record hready hrecord hsame bytes, sameStation_withPort hstation _, ?_, hport.flags, hport.marks,
    hport.mask, hport.result, hport.rosterPtr⟩
  rw [hspelled]
  exact portAfter_ended _ _ _ _ _

/-- A flag's bit in a byte (R199). -/
theorem mul_toNat_eq_ite (b : Bool) (n : Nat) : 2 ^ n * b.toNat = if b then 2 ^ n else 0 := by
  cases b <;> simp

/-- Settles O46. -/
theorem recordReadsShiftOutTheRecord : Obligations.RecordReadsShiftOutTheRecord := by
  intro s bytes hready hi lo byte num reads membership alignment result cause diag origin bit place pend
  have hmembership : membershipCode s.member.state = membership := by
    dsimp only [membership]
    cases s.member.state <;> rfl
  have halignment : alignCode s.align.state = alignment := by
    dsimp only [alignment]
    cases s.align.state <;> rfl
  have hresult : resultCode s.port.result = result := by
    dsimp only [result]
    cases s.port.result <;> rfl
  have hcause : causeCode s.loader.cause = cause := by
    dsimp only [cause]
    cases s.loader.cause <;> rfl
  have hdiag : diagCode s.loader.diag.cause = diag := by
    dsimp only [diag]
    cases s.loader.diag.cause <;> rfl
  have horigin : originField s.mon.latch = origin := by
    dsimp only [origin]
    rcases s.mon.latch with _ | _ | _ | _ | _ <;> rfl
  have hbit : ∀ (b : Bool) (n : Nat), 2 ^ n * b.toNat = bit b n := mul_toNat_eq_ite
  have hbit0 : ∀ b : Bool, b.toNat = bit b 0 := fun b => by rw [← hbit, Nat.pow_zero, Nat.one_mul]
  have hhead : statusHead s = [byte (cause + 4 * diag + 16 * s.loader.diag.attempts),
      byte (s.loader.diag.index.getD 0), byte (bit s.plan.epoch.isSome 0 + bit s.plan.set.isSome 1 +
        bit s.plan.place.isSome 2 + bit s.plan.pending.isSome 3)] := by
    rw [← hcause, ← hdiag, ← hbit0, ← hbit, ← hbit, ← hbit]
    rfl
  have hcurrent : statusCurrent s.plan = [s.plan.epoch.getD 0, hi (s.plan.set.getD 0), lo (s.plan.set.getD 0),
      byte place.rank, byte place.size, hi (num place.target), lo (num place.target)] := by
    dsimp only [place]
    unfold statusCurrent
    cases s.plan.place <;> rfl
  have hpending : statusPending s.plan.pending =
      [pend.epoch, byte pend.issuer.val, hi pend.members, lo pend.members, pend.effSeq] := by
    dsimp only [pend]
    cases s.plan.pending <;> rfl
  have hmonitor : statusMonitor s.mon = [byte (bit s.mon.a.asserted 0 + bit s.mon.b.asserted 1 +
      bit s.mon.cutForce 2 + bit s.mon.a.holdForce 3 + bit s.mon.b.holdForce 4 + bit s.mon.latchForce 5 +
      bit s.mon.latch.isSome 6), byte origin, byte (s.mon.history.filter fun e => e.flta || e.fltb).length] := by
    rw [← horigin, ← hbit0, ← hbit, ← hbit, ← hbit, ← hbit, ← hbit, ← hbit]
    rfl
  refine ⟨?_, ?_, ?_⟩
  · rw [← hmembership, ← halignment, ← hresult, ← hbit]
    rfl
  · obtain ⟨t, ht, hafter⟩ := reads_record hready (code := 0x01#8) rfl rfl bytes _
      (show statusRecord s = _ by rw [statusRecord, hhead, hcurrent, hpending, hmonitor])
    exact ⟨t, next_congr ht, hafter⟩
  · obtain ⟨t, ht, hafter⟩ := reads_record hready (code := 0x02#8) rfl rfl bytes _ (rfl : alignRecord s = _)
    exact ⟨t, next_congr ht, hafter⟩

end Sys2Proof.Machine

/-! ### COUNTERS READ and ROSTER READ (R193, R194, R199) -/

namespace Sys2Proof.Machine

open Sys2Proof.Safety

/-! #### The counters by number (R193) -/

/-- The state with these values of the eleven counters. -/
def withCounters (f : Nat → BitVec 16) (s : State) : State :=
  { s with
    link := { s.link with framesTx := f 0, framesRx := f 1, rxErr := f 2, yields := f 3, txDrop := f 4 }
    align := { s.align with outliers := f 5 }
    plan := { s.plan with issued := f 6, conflict := f 7, late := f 8 }
    mon := { s.mon with cutCycles := f 9, latches := f 10 } }

theorem withCounters_counterAt (s : State) : withCounters (counterAt s) s = s := rfl

theorem counterAt_withCounters (f : Nat → BitVec 16) (s : State) {i : Nat} (h : i < 11) :
    counterAt (withCounters f s) i = f i := by
  interval_cases i <;> rfl

theorem withCounters_congr {f g : Nat → BitVec 16} (h : ∀ i, i < 11 → f i = g i) (s : State) :
    withCounters f s = withCounters g s := by
  unfold withCounters
  rw [h 0 (by decide), h 1 (by decide), h 2 (by decide), h 3 (by decide), h 4 (by decide), h 5 (by decide),
    h 6 (by decide), h 7 (by decide), h 8 (by decide), h 9 (by decide), h 10 (by decide)]

theorem clearCounter_withCounters (f : Nat → BitVec 16) (s : State) {i : Nat} (h : i < 11) :
    clearCounter (withCounters f s) i = withCounters (fun j => if j = i then 0 else f j) s := by
  interval_cases i <;> rfl

theorem clearCounter_respond (bytes : List Byte) (s : State) (i : Nat) :
    clearCounter (respond bytes s) i = respond bytes (clearCounter s i) := by
  unfold clearCounter
  split <;> rfl

/-- The response of COUNTERS READ (R193). -/
def counterRecord (s : State) : List Byte :=
  (List.range 11).flatMap fun i => word16 (counterAt s i)

/-- Two more bytes of the response are the next counter. -/
theorem take_counterRecord (s : State) {i : Nat} (h : i < 11) :
    (counterRecord s).take (2 * (i + 1)) = (counterRecord s).take (2 * i) ++ word16 (counterAt s i) := by
  interval_cases i <;> rfl

theorem take_counterRecord_of_end (s : State) {i : Nat} (h : 11 ≤ i) :
    (counterRecord s).take (2 * i) = counterRecord s :=
  List.take_of_length_le (show 22 ≤ 2 * i by omega)

/-! #### The two requests byte by byte (R193) -/

/-- The code of COUNTERS READ, without and with the clear (R188). -/
def countersCode (clear : Bool) : Byte :=
  if clear then 0x83#8 else 0x03#8

/-- The counters when m of them have been copied. -/
def keptCounters (clear : Bool) (m : Nat) (s : State) (i : Nat) : BitVec 16 :=
  if clear = true ∧ i < m then 0 else counterAt s i

/-- The state after n data bytes of COUNTERS READ, but for the bits shifted: a counter is copied, and cleared, as its
first byte begins (R193). -/
def countersAfter (clear : Bool) (s : State) (n : Nat) : State :=
  respond ((counterRecord s).take (2 * ((n + 1) / 2)))
    (withCounters (keptCounters clear ((n + 1) / 2) s) (begun (countersCode clear) s))

theorem keptCounters_false (m : Nat) (s : State) : keptCounters false m s = counterAt s :=
  funext fun _ => if_neg fun h => Bool.noConfusion h.1

theorem keptCounters_zero (clear : Bool) (s : State) : keptCounters clear 0 s = counterAt s :=
  funext fun i => if_neg fun h => Nat.not_lt_zero i h.2

theorem keptCounters_succ (m : Nat) (s : State) :
    (fun j => if j = m then 0 else keptCounters true m s j) = keptCounters true (m + 1) s := by
  funext j
  simp only [keptCounters, true_and, Nat.lt_succ_iff_lt_or_eq]
  by_cases hj : j = m <;> simp [hj]

theorem currentRequest_countersAfter (clear : Bool) (s : State) (n : Nat) :
    currentRequest (countersAfter clear s n) = if clear then .countersClear else .counters := by
  refine (currentRequest_begun (countersCode clear) s).trans ?_
  cases clear <;> rfl

theorem countersAfter_zero (clear : Bool) (s : State) : countersAfter clear s 0 = begun (countersCode clear) s := by
  change respond [] (withCounters (keptCounters clear 0 s) (begun (countersCode clear) s)) = _
  rw [keptCounters_zero]
  rfl

theorem beginWork_counters {clear : Bool} {s : State}
    (h : currentRequest s = if clear then .countersClear else .counters) (k : Nat) :
    beginWork k s = if k % 2 = 1 ∧ k ≤ 21 then
      (if clear then clearCounter (copyCounter (k / 2) s) (k / 2) else copyCounter (k / 2) s) else s := by
  unfold beginWork
  rw [h]
  cases clear <;> rfl

/-- The copy of counter i, as its first byte begins. -/
theorem copyCounter_countersAfter (clear : Bool) (s : State) {i : Nat} (h : i < 11) :
    copyCounter i (countersAfter clear s (2 * i)) = respond ((counterRecord s).take (2 * (i + 1)))
      (withCounters (keptCounters clear i s) (begun (countersCode clear) s)) := by
  have hvalue : counterAt (countersAfter clear s (2 * i)) i = counterAt s i := by
    have hkept : keptCounters clear ((2 * i + 1) / 2) s i = counterAt s i :=
      if_neg fun hcleared => by omega
    rw [← hkept]
    exact counterAt_withCounters _ (begun (countersCode clear) s) h
  have hhalf : (2 * i + 1) / 2 = i := by omega
  rw [copyCounter, hvalue, take_counterRecord s h, countersAfter, hhalf]
  rfl

/-- The copy of the next counter, and its clear, or nothing between two counters and after the last. -/
theorem beginWork_countersAfter (clear : Bool) (s : State) (n : Nat) :
    beginWork (n + 1) (countersAfter clear s n) = countersAfter clear s (n + 1) := by
  rw [beginWork_counters (currentRequest_countersAfter clear s n)]
  by_cases hfirst : (n + 1) % 2 = 1 ∧ n + 1 ≤ 21
  · obtain ⟨i, rfl⟩ : ∃ i, n = 2 * i := ⟨n / 2, by omega⟩
    have hi : i < 11 := by omega
    have hnext : (2 * i + 1 + 1) / 2 = i + 1 := by omega
    rw [if_pos hfirst, show (2 * i + 1) / 2 = i by omega, copyCounter_countersAfter clear s hi, countersAfter, hnext]
    cases clear with
    | true =>
      rw [if_pos rfl, clearCounter_respond, clearCounter_withCounters _ _ hi, keptCounters_succ]
    | false => rw [if_neg Bool.false_ne_true, keptCounters_false, keptCounters_false]
  · rw [if_neg hfirst]
    by_cases hend : n < 22
    · have hsame : (n + 1) / 2 = (n + 1 + 1) / 2 := by omega
      rw [countersAfter, countersAfter, hsame]
    · rw [countersAfter, countersAfter, take_counterRecord_of_end s (by omega), take_counterRecord_of_end s (by omega)]
      refine congrArg _ (withCounters_congr (fun i hi => ?_) _)
      have hboth : i < (n + 1) / 2 ∧ i < (n + 1 + 1) / 2 := by omega
      simp only [keptCounters, hboth]

/-- The byte shifted out lies in the copies made so far. -/
theorem outByte_countersAfter (clear : Bool) (s : State) (n : Nat) :
    outByte (n + 1) (countersAfter clear s (n + 1)) = (counterRecord s).getD n 0 := by
  have hdata : dataByte (n + 1) (countersAfter clear s (n + 1)) =
      ((counterRecord s).take (2 * ((n + 1 + 1) / 2))).getD n 0 := by
    unfold dataByte
    rw [currentRequest_countersAfter]
    cases clear <;> rfl
  rw [outByte, if_neg (Nat.succ_ne_zero n), hdata, List.getD_eq_getElem?_getD, List.getD_eq_getElem?_getD,
    List.getElem?_take_of_lt (by omega)]

/-- A whole COUNTERS READ, without or with the clear (R193). -/
theorem transfer_counters {s : State} (hready : PortReady s) (clear : Bool) (bytes : List Byte) :
    transfer [countersCode clear] (whole (countersCode clear :: bytes)) s =
      ended (byteBits (countersCode clear :: bytes))
        (byteBits (statusByte s :: (List.range bytes.length).map fun k => (counterRecord s).getD k 0))
        (countersAfter clear s bytes.length) := by
  have hrequest := currentRequest_countersAfter clear s
  have hwhole := transfer_whole hready (agrees_code (countersCode clear) bytes) (after := countersAfter clear s)
    (out := fun k => (counterRecord s).getD k 0) (countersAfter_zero clear s)
    (fun k b _ => by
      rw [beginWork_countersAfter, completeWork_of_not_roster]
      rw [hrequest]
      cases clear <;> decide)
    (fun k => by rw [beginWork_countersAfter, outByte_countersAfter])
  rw [hwhole]
  refine closeTxn_shifting (actAtEnd_of_reads ?_)
  rw [currentRequest_shifting (hrequest bytes.length)]
  cases clear <;> rfl

/-- Settles O47. -/
theorem countersReadCopiesAndClears : Obligations.CountersReadCopiesAndClears := by
  intro s bytes hready counters record response
  constructor
  · have hcounters : countersAfter false s bytes.length =
        respond ((counterRecord s).take (2 * ((bytes.length + 1) / 2))) (begun 0x03#8 s) := by
      rw [countersAfter, keptCounters_false]
      rfl
    have hexec := transfer_counters hready false bytes
    rw [hcounters] at hexec
    exact ⟨_, next_congr hexec, sameStation_withPort (sameStation_refl s) _, portAfter_ended _ _ _ _ _, rfl, rfl⟩
  · have hexec := transfer_counters hready true bytes
    refine ⟨_, next_congr hexec, portAfter_ended _ _ _ _ _, fun i hi => ?_, rfl, rfl, rfl⟩
    have hkept : keptCounters true ((bytes.length + 1) / 2) s i =
        if 2 * i < bytes.length then 0 else counterAt s i := by
      have hlt : i < (bytes.length + 1) / 2 ↔ 2 * i < bytes.length := by omega
      simp only [keptCounters, true_and, hlt]
    have hvalues : ∀ u : State, (counters u).getD i 0 = counterAt u i := by
      interval_cases i <;> exact fun _ => rfl
    rw [hvalues, hvalues, ← hkept]
    exact counterAt_withCounters _ (begun 0x83#8 s) hi

/-! #### ROSTER READ (R194, R60) -/

/-- The state after n data bytes of ROSTER READ with this start number, but for the bits shifted: byte 1 brings the
number, and after it a record is copied as each eighth byte begins (R194). -/
def rosterAfter (start : Station) (s : State) : Nat → State
  | 0 => begun 0x04#8 s
  | n + 1 => { begun 0x04#8 s with port := { (begun 0x04#8 s).port with
      rosterPtr := start + Fin.ofNat 16 ((n + 7) / 8)
      response := if n = 0 then [] else rosterRecord (readEntry s (start + Fin.ofNat 16 ((n - 1) / 8))) } }

theorem currentRequest_rosterAfter (start : Station) (s : State) (n : Nat) :
    currentRequest (rosterAfter start s n) = .roster := by
  cases n <;> exact currentRequest_begun 0x04#8 s

theorem beginWork_roster {s : State} (h : currentRequest s = .roster) (k : Nat) :
    beginWork k s = if 2 ≤ k ∧ k % 8 = 2 then copyEntry s else s := by
  unfold beginWork
  rw [h]

theorem completeWork_roster {s : State} (h : currentRequest s = .roster) (k : Nat) (b : Byte) :
    completeWork (k + 1) b s =
      if k = 0 then { s with port := { s.port with rosterPtr := stationOfNat b.toNat } } else s := by
  unfold completeWork
  rw [if_neg (Nat.succ_ne_zero k)]
  cases k <;> simp [h]

/-- Two numbers of stations one apart. -/
theorem ofNat_succ (n : Nat) : (Fin.ofNat 16 (n + 1) : Station) = Fin.ofNat 16 n + 1 := by
  apply Fin.ext
  simp [Fin.ofNat, Fin.val_add]

/-- A byte after byte 1 begins: the first of eight copies the next entry. -/
theorem beginWork_rosterAfter (start : Station) (s : State) (n : Nat) :
    beginWork (n + 2) (rosterAfter start s (n + 1)) = rosterAfter start s (n + 2) := by
  rw [beginWork_roster (currentRequest_rosterAfter start s (n + 1))]
  split_ifs with hfirst
  · obtain ⟨m, rfl⟩ : ∃ m, n = 8 * m := ⟨n / 8, by omega⟩
    have hptr : (8 * m + 7) / 8 = m := by omega
    have hnext : (8 * m + 1 + 7) / 8 = m + 1 := by omega
    have hentry : (8 * m + 1 - 1) / 8 = m := by omega
    have hread : ∀ p j, readEntry { begun 0x04#8 s with port := p } j = readEntry s j := readEntry_of_port s
    unfold copyEntry
    simp only [rosterAfter, hptr, hnext, hentry, ofNat_succ, hread, if_neg (Nat.succ_ne_zero _)]
    rw [← add_assoc]
  · have hpos : n ≠ 0 := fun h0 => hfirst (by omega)
    have hptr : (n + 1 + 7) / 8 = (n + 7) / 8 := by omega
    have hentry : (n + 1 - 1) / 8 = (n - 1) / 8 := by omega
    simp only [rosterAfter, hptr, hentry, if_neg hpos, if_neg (Nat.succ_ne_zero _)]

/-- The bytes shifted out: 00h as byte 1, and then record after record (R194). -/
def rosterOut (start : Station) (s : State) : Nat → Byte
  | 0 => 0
  | n + 1 => (rosterRecord (readEntry s (start + Fin.ofNat 16 (n / 8)))).getD (n % 8) 0

theorem dataByte_roster {s : State} (h : currentRequest s = .roster) (k : Nat) :
    dataByte k s = if k = 1 then 0 else s.port.response.getD ((k - 2) % 8) 0 := by
  unfold dataByte
  rw [h]

/-- A whole ROSTER READ of at least its byte 1 (R194). -/
theorem transfer_roster {s : State} (hready : PortReady s) (b : Byte) (rest : List Byte) :
    transfer [0x04#8] (whole (0x04#8 :: b :: rest)) s = ended (byteBits (0x04#8 :: b :: rest))
      (byteBits (statusByte s :: (List.range (rest.length + 1)).map (rosterOut (Fin.ofNat 16 b.toNat) s)))
      (rosterAfter (Fin.ofNat 16 b.toNat) s (rest.length + 1)) := by
  have hrequest := currentRequest_rosterAfter (Fin.ofNat 16 b.toNat) s
  have hfirst : beginWork 1 (rosterAfter (Fin.ofNat 16 b.toNat) s 0) = rosterAfter (Fin.ofNat 16 b.toNat) s 0 :=
    beginWork_roster (hrequest 0) 1
  have hwhole := transfer_whole hready (agrees_code 0x04#8 (b :: rest))
    (after := rosterAfter (Fin.ofNat 16 b.toNat) s) (out := rosterOut (Fin.ofNat 16 b.toNat) s) rfl
    (fun k x hx => by
      cases k with
      | zero =>
        obtain rfl : b = x := Option.some.inj hx
        rw [hfirst, completeWork_roster (hrequest 0)]
        simp [rosterAfter, begun, stationOfNat]
      | succ k => rw [beginWork_rosterAfter, completeWork_roster (hrequest (k + 2)), if_neg (Nat.succ_ne_zero k)])
    (fun k => by
      rw [outByte, if_neg (Nat.succ_ne_zero k)]
      cases k with
      | zero => rw [hfirst, dataByte_roster (hrequest 0)]; rfl
      | succ k => rw [beginWork_rosterAfter, dataByte_roster (hrequest (k + 2))]; rfl)
  rw [hwhole]
  refine closeTxn_shifting (actAtEnd_of_reads ?_)
  rw [currentRequest_shifting (hrequest (b :: rest).length)]
  rfl

/-- What ROSTER READ keeps while its byte 1 is not complete. -/
structure PointerKept (s t : State) : Prop where
  station : SameStation s t
  rosterPtr : t.port.rosterPtr = s.port.rosterPtr
  request : RequestIs 0x04#8 t

theorem edgesKeep_pointerKept {most : Nat} (hmost : most < 16) (s : State) :
    EdgesKeep 0x04#8 most (PointerKept s) where
  bits := by
    intro t u hbits h
    rw [hbits]
    exact ⟨sameStation_withPort h.station _, h.rosterPtr, h.request⟩
  begins := by
    intro k t hk h
    obtain rfl : k = 0 := by omega
    rcases currentRequest_cases h.request with hr | hr
    · rw [beginWork_of_silent (by rw [hr]; rfl)]
      exact h
    · rw [beginWork_roster hr, if_neg (by decide)]
      exact h
  selects := by
    intro t h
    exact ⟨sameStation_withPort h.station _, h.rosterPtr, requestIs_selected _ t⟩
  completes := by
    intro k t b hk h
    omega

/-! #### Entries and their records (R54, R60, R199) -/

/-- The presence that a silence limit brings, where it brings one: SILENT in the current set, ABSENT outside (R53). -/
theorem eq_of_silenceChange {inCur : Bool} {p q : Presence} (h : silenceChange inCur p = some q) :
    q = if inCur then .silent else .absent := by
  cases p <;> cases inCur <;> cases h <;> rfl

/-- An entry as its silence limit leaves it, where the limit is due (R53). -/
theorem testSilence_of_due {c : Image} {e : Entry} {inCur : Bool} (hlimit : silenceLimit c ≤ e.silence)
    (hchange : (silenceChange inCur e.presence).isSome = true) :
    e.testSilence c inCur = if inCur then { e with presence := .silent } else Entry.cleared := by
  obtain ⟨q, hq⟩ := Option.isSome_iff_exists.mp hchange
  have hpresence := eq_of_silenceChange hq
  unfold Entry.testSilence
  rw [if_pos hlimit, hq, hpresence]
  cases inCur <;> rfl

theorem readEntry_of_no_image {s : State} (h : s.loader.config = none) (j : Station) :
    readEntry s j = s.roster[j] := by
  unfold readEntry
  rw [h]

/-- A reader finds an entry as a silence limit that is due leaves it (R54, R60, log 4). -/
theorem readEntry_of_image {c : Image} {s : State} (h : s.loader.config = some c) (j : Station) :
    readEntry s j = if silenceDue c s j then
      (if inCurrent s j then { s.roster[j] with presence := .silent } else Entry.cleared) else s.roster[j] := by
  have hread : readEntry s j = (takeSilence c j s).roster[j] := by
    unfold readEntry
    rw [h]
  rw [hread]
  by_cases hj : j = c.station
  · have hdue : silenceDue c s j = false := by simp [silenceDue, hj]
    rw [hdue, if_neg Bool.false_ne_true, takeSilence, if_pos hj]
  · have hdue : silenceDue c s j = true ↔ silenceLimit c ≤ (s.roster[j]).silence ∧
        (silenceChange (inCurrent s j) (s.roster[j]).presence).isSome = true := by
      simp [silenceDue, hj]
    rw [takeSilence_entry hj]
    split_ifs with hd hin
    · rw [testSilence_of_due (hdue.mp hd).1 (hdue.mp hd).2, if_pos hin]
    · rw [testSilence_of_due (hdue.mp hd).1 (hdue.mp hd).2, if_neg hin]
    · exact testSilence_of_not_due c s j hj (Bool.not_eq_true _ ▸ hd)

/-- Settles O48. -/
theorem rosterReadShiftsOutEntries : Obligations.RosterReadShiftsOutEntries := by
  intro s hready entry byte bit presence reported origin deviation record
  have hentry : ∀ j, readEntry s j = entry j := by
    intro j
    dsimp only [entry]
    cases hconfig : s.loader.config with
    | none => exact readEntry_of_no_image hconfig j
    | some c => exact readEntry_of_image hconfig j
  have hrecord : ∀ e, rosterRecord e = record e := by
    intro e
    have hpresence : presenceCode e.presence = presence e := by
      dsimp only [presence]
      cases e.presence <;> rfl
    have hreported : reportedField e.reported = reported e := by
      dsimp only [reported]
      rcases e.reported with _ | _ | _ | _ <;> rfl
    have horigin : originField e.faultOrigin = origin e := by
      dsimp only [origin]
      rcases e.faultOrigin with _ | _ | _ | _ | _ <;> rfl
    have hbit : ∀ (b : Bool) (n : Nat), 2 ^ n * b.toNat = bit b n := mul_toNat_eq_ite
    dsimp only [record]
    rw [← hpresence, ← hreported, ← horigin, ← hbit, ← hbit, ← hbit, ← hbit]
    rfl
  constructor
  · intro bits hfew hcode
    obtain ⟨u, htransfer, hkept⟩ := transfer_few hready (edgesKeep_pointerKept hfew s)
      ⟨sameStation_withPort (sameStation_refl s) _, rfl, .inl rfl⟩ hcode (.inl hfew)
    exact ⟨_, next_congr htransfer, sameStation_withPort hkept.station _, hkept.rosterPtr, rfl⟩
  · intro b rest start
    have hout : (List.range (rest.length + 1)).map (rosterOut start s) = 0 :: (List.range rest.length).map fun k =>
        (record (entry (start + Fin.ofNat 16 (k / 8)))).getD (k % 8) 0 := by
      rw [List.range_succ_eq_map, List.map_cons, List.map_map]
      simp only [rosterOut, Function.comp_def, hentry, hrecord]
    refine ⟨_, next_congr (transfer_roster hready b rest), sameStation_withPort (sameStation_refl s) _,
      ⟨rfl, rfl, rfl, congrArg (fun l => byteBits (statusByte s :: l)) hout⟩, rfl, rfl, rfl⟩

end Sys2Proof.Machine

/-! ### Transactions in pieces (R185, R195, log 8) -/

namespace Sys2Proof.Machine

open Sys2Proof.Safety

/-! #### The instructions of the control port -/

/-- Every request and command of the control port is a transaction with its own header (R185, R188, R195). -/
theorem exec_transaction {f : Xfer → Instr} {header : List Byte}
    (h : (f, header) ∈ [(Instr.statusRead, [0x01#8]), (.alignRead, [0x02#8]), (.countersRead, [0x03#8]),
      (.countersReadWithClear, [0x83#8]), (.rosterRead, [0x04#8]), (.eventsReadAndClear, [0x05#8]),
      (.demandWrite, [0x11#8]), (.alertMaskWrite, [0x12#8]), (.join, [0x21#8, 0x01#8]), (.leave, [0x21#8, 0x02#8]),
      (.clearFault, [0x21#8, 0x03#8]), (.restart, [0x21#8, 0x04#8])] ∨
      (∃ code, f = .undefinedRequest code ∧ header = [code])) (x : Xfer) (s : State) :
    exec (f x) s = .next (transfer header x s) := by
  rcases h with h | ⟨code, rfl, rfl⟩
  · simp only [List.mem_cons, List.not_mem_nil, or_false, Prod.mk.injEq] at h
    rcases h with ⟨rfl, rfl⟩ | ⟨rfl, rfl⟩ | ⟨rfl, rfl⟩ | ⟨rfl, rfl⟩ | ⟨rfl, rfl⟩ | ⟨rfl, rfl⟩ | ⟨rfl, rfl⟩ |
      ⟨rfl, rfl⟩ | ⟨rfl, rfl⟩ | ⟨rfl, rfl⟩ | ⟨rfl, rfl⟩ | ⟨rfl, rfl⟩ <;> rfl
  · rfl

/-- A command of the control port is a transaction of COMMAND with its own command byte (R195). -/
theorem exec_command {f : Xfer → Instr} (h : f = .join ∨ f = .leave ∨ f = .clearFault ∨ f = .restart) :
    ∃ b : Byte, ∀ (x : Xfer) (s : State), exec (f x) s = .next (transfer [0x21#8, b] x s) := by
  rcases h with rfl | rfl | rfl | rfl
  · exact ⟨0x01#8, fun _ _ => rfl⟩
  · exact ⟨0x02#8, fun _ _ => rfl⟩
  · exact ⟨0x03#8, fun _ _ => rfl⟩
  · exact ⟨0x04#8, fun _ _ => rfl⟩

/-! #### The edges of an open and of an ignored transaction -/

theorem fallEdge_ignored {s : State} (h : s.port.txn = .ignored) : fallEdge s = s := by
  unfold fallEdge
  rw [h]

theorem clock_ignored {s : State} (h : s.port.txn = .ignored) (bits : List Bool) : bits.foldl clockBit s = s := by
  induction bits with
  | nil => rfl
  | cons b bits ih =>
    have hbit : clockBit s b = s := by
      unfold clockBit riseEdge
      rw [fallEdge_ignored h, h]
    rw [List.foldl_cons, hbit, ih]

/-- The fall of CP_CS# opens a transaction, or starts one that is ignored (R185, R187). -/
theorem openTxn_cases (s : State) : (openTxn s).port.txn = .ignored ∨ AfterBits [] (openTxn s) := by
  by_cases h : (closeTxn s).loader.load = .held
  · left
    unfold openTxn
    dsimp only
    rw [if_pos h]
  · exact .inr (afterBits_openTxn h)

/-- A piece that opens a transaction whose header it begins, and leaves it open. -/
theorem transfer_opens {header : List Byte} {bits : List Bool} (falls : Bool) (s : State)
    (h : agrees (byteBits header) bits = true) :
    transfer header ⟨true, bits, falls, false⟩ s = clockBits ⟨true, bits, falls, false⟩ (openTxn s) :=
  if_pos (show belongs header ⟨true, bits, falls, false⟩ s = true from h)

theorem transfer_opens_closes {header : List Byte} {bits : List Bool} (s : State)
    (h : agrees (byteBits header) bits = true) :
    transfer header ⟨true, bits, false, true⟩ s = closeTxn (bits.foldl clockBit (openTxn s)) :=
  if_pos (show belongs header ⟨true, bits, false, true⟩ s = true from h)

/-- A piece that closes a transaction which this header has begun. -/
theorem transfer_closes {header : List Byte} {bits : List Bool} {s : State}
    (h : belongs header ⟨false, bits, false, true⟩ s = true) :
    transfer header ⟨false, bits, false, true⟩ s = closeTxn (bits.foldl clockBit s) :=
  if_pos h

theorem belongs_of_opened {header : List Byte} {bits : List Bool} {s : State} {k : Nat} (h : s.port.txn = .opened k)
    (hbits : agrees (byteBits header) (s.port.sdi ++ bits) = true) :
    belongs header ⟨false, bits, false, true⟩ s = true := by
  unfold belongs
  rw [if_neg Bool.false_ne_true, h]
  exact hbits

theorem belongs_of_ignored {header : List Byte} {bits : List Bool} {s : State} (h : s.port.txn = .ignored) :
    belongs header ⟨false, bits, false, true⟩ s = true := by
  unfold belongs
  rw [if_neg Bool.false_ne_true, h]

/-- A first piece up to any edge of CP_SCK, then the bits that are left: the transaction is the same one, and so is
what its bits have done (R185, log 8). -/
theorem clock_pieces {header : List Byte} {d1 d2 : List Bool} {falls : Bool} (s : State)
    (h : agrees (byteBits header) (d1 ++ d2) = true) (hfalls : falls = false ∨ d2 ≠ []) :
    let first := clockBits ⟨true, d1, falls, false⟩ (openTxn s)
    belongs header ⟨false, d2, false, true⟩ first = true ∧
      d2.foldl clockBit first = (d1 ++ d2).foldl clockBit (openTxn s) := by
  intro first
  rw [List.foldl_append]
  rcases openTxn_cases s with hignored | hopened
  · have hsame : first = openTxn s := by
      change (if falls then fallEdge (d1.foldl clockBit (openTxn s)) else d1.foldl clockBit (openTxn s)) = _
      rw [clock_ignored hignored, fallEdge_ignored hignored, ite_self]
    rw [hsame, clock_ignored hignored d1]
    exact ⟨belongs_of_ignored hignored, rfl⟩
  · have hafter := afterBits_clock hopened d1
    cases falls with
    | false =>
      have hfirst : AfterBits d1 first := hafter
      exact ⟨belongs_of_opened hfirst.txn (by rw [hfirst.sdi]; exact h), rfl⟩
    | true =>
      have hfirst : Presented d1 first := presented_fallEdge hafter
      refine ⟨belongs_of_opened hfirst.txn (by rw [hfirst.sdi]; exact h), ?_⟩
      cases d2 with
      | nil => exact absurd rfl (hfalls.resolve_left Bool.noConfusion)
      | cons b rest =>
        have hbit : clockBit first b = clockBit (d1.foldl clockBit (openTxn s)) b :=
          congrArg (riseEdge b) (fallEdge_of_presented (presented_fallEdge hafter))
        rw [List.foldl_cons, List.foldl_cons, hbit]

/-- A piece of a request that shifts out 00h, which leaves its transaction open. -/
theorem quiet_clockBits {s : State} (hready : PortReady s) {code : Byte} (hcode : (requestOf code).silent = true)
    {bits : List Bool} (hbits : agrees (byteBits [code]) bits = true) (falls : Bool) :
    Quiet code s (clockBits ⟨true, bits, falls, false⟩ (openTxn s)) := by
  have hkeep := edgesKeep_quiet hcode bits.length s
  have hopened : AfterBits [] (openTxn s) := by
    rw [openTxn_ready hready]
    exact ⟨rfl, rfl, rfl⟩
  have hstart : Quiet code s (openTxn s) := by
    rw [openTxn_ready hready]
    exact hkeep.bits rfl (quiet_opened code s [statusByte s])
  have hclock := hkeep.clock hopened hstart hbits (Nat.le_refl _)
  cases falls with
  | false => exact hclock
  | true => exact hkeep.fallEdge (afterBits_clock hopened bits) (Nat.le_refl _) hclock

/-- Settles O52. -/
theorem transactionInPiecesIsTheWholeOne : Obligations.TransactionInPiecesIsTheWholeOne := by
  refine ⟨fun s t f header d1 d2 falls hf hagrees hfalls hfirst => ?_, fun s f bits hready hf hfew => ?_,
    fun s f bits falls hready hf => ?_⟩
  · have hexec := exec_transaction hf
    rw [hexec, transfer_opens falls s (agrees_of_append hagrees)] at hfirst
    obtain ⟨hbelongs, hclock⟩ := clock_pieces s hagrees hfalls
    have ht : clockBits ⟨true, d1, falls, false⟩ (openTxn s) = t := by
      injection hfirst
    rw [ht] at hbelongs hclock
    rw [hexec, hexec, transfer_closes hbelongs, transfer_opens_closes s hagrees, hclock]
  · obtain ⟨b, hexec⟩ := exec_command hf
    by_cases hheader : agrees (byteBits [0x21#8, b]) bits = true
    · obtain ⟨t, ht, hstation, hport, htxn⟩ := transfer_quiet hready rfl hheader (.inl hfew)
      exact ⟨t, (hexec _ s).trans (next_congr ht), hstation, hport.result, hport.flags, htxn⟩
    · have hother : transfer [0x21#8, b] ⟨true, bits, false, true⟩ s = s := if_neg hheader
      exact ⟨s, (hexec _ s).trans (next_congr hother), sameStation_refl s, rfl, rfl, hready.closed⟩
  · obtain ⟨b, hexec⟩ := exec_command hf
    by_cases hheader : agrees (byteBits [0x21#8, b]) bits = true
    · have hquiet := quiet_clockBits hready (code := 0x21#8) rfl (agrees_code_of_header hheader) falls
      exact ⟨_, (hexec _ s).trans (next_congr (transfer_opens falls s hheader)), hquiet.station, hquiet.port.result,
        hquiet.port.flags, hquiet.port.marks, hquiet.port.mask⟩
    · have hother : transfer [0x21#8, b] ⟨true, bits, falls, false⟩ s = s := if_neg hheader
      exact ⟨s, (hexec _ s).trans (next_congr hother), sameStation_refl s, rfl, rfl, rfl, rfl⟩

end Sys2Proof.Machine

/-! ### JOIN, LEAVE, CLEAR FAULT and RESTART (R89, R95, R97, R104, R171, R181, R182, R195) -/

namespace Sys2Proof.Machine

open Sys2Proof.Safety

/-! #### A command as a whole transaction (R195) -/

/-- The port as CP_CS# rises on a COMMAND with this command byte. -/
def commandPort (b : Byte) (s : State) : Port :=
  { s.port with
    txn := .opened 1
    request := some 0x21#8
    response := []
    sdi := byteBits [0x21#8, b]
    sdo := byteBits [statusByte s, 0x00#8] }

/-- The state after a command that left this one, with its result, once CP_CS# has risen (R195). -/
def commandEnd (r : CmdResult) (s : State) : State :=
  { s with port := { s.port with txn := .closed, request := none, result := r } }

theorem transfer_command {s : State} (hready : PortReady s) (b : Byte) : transfer [0x21#8, b] (whole [0x21#8, b]) s =
    { runCommand b { s with port := commandPort b s } with
      port := (runCommand b { s with port := commandPort b s }).port.close } := by
  have hheader : agrees (byteBits [0x21#8, b]) (byteBits [0x21#8, b]) = true := by
    have h := agrees_append (byteBits [0x21#8, b]) []
    rwa [List.append_nil] at h
  have hcommand : actAtEnd { s with port := commandPort b s } = runCommand b { s with port := commandPort b s } :=
    actAtEnd_command rfl (dataBytes_whole 1 0x21#8 [b] (byteBits [statusByte s, 0x00#8]) (begun 0x21#8 s))
  rw [transfer_silent hready hheader rfl]
  change closeTxn { s with port := commandPort b s } = _
  unfold closeTxn
  dsimp only [commandPort] at hcommand ⊢
  rw [hcommand]

/-- What a command with this result shows and leaves, by what it does to the station (R185, R195). -/
theorem transfer_commandEnd {s v : State} (hready : PortReady s) {b : Byte} {r : CmdResult}
    (h : runCommand b { s with port := commandPort b s } = recordResult r v) :
    transfer [0x21#8, b] (whole [0x21#8, b]) s = commandEnd r v := by
  rw [transfer_command hready, h]
  rfl

theorem portAfter_commandEnd {s v : State} {b : Byte} (r : CmdResult)
    (h : v.port.sdi = (commandPort b s).sdi ∧ v.port.sdo = (commandPort b s).sdo) :
    PortAfter s (commandEnd r v) [0x21#8, b] [0x00#8] :=
  ⟨rfl, rfl, h.1, h.2⟩

/-! #### JOIN (R89, R37) -/

/-- The JOIN path from a state other than ACTIVE, by the alignment state (R89). -/
theorem joinPath_of_free {s : State} (h : s.member.state ≠ .active) (halign : s.align.state = .free) :
    joinPath s = { s with member := s.member.enter .listen, link := s.link.enterState .listen } := by
  rw [joinPath, if_pos halign]
  exact moveTo_of_not_active h _

theorem joinPath_of_aligned {s : State} (h : s.member.state ≠ .active) (halign : s.align.state ≠ .free) :
    joinPath s = { s with member := s.member.enter .joining, link := { s.link with beaconPoint := none } } := by
  rw [joinPath, if_neg halign]
  exact moveTo_of_not_active h _

theorem commandJoin_of_free {s : State} (h : s.member.state = .detached) (halign : s.align.state = .free) :
    commandJoin s = recordResult .accepted
      { s with member := ⟨.listen, some 0, none, none, 0, false⟩, link := s.link.enterState .listen } := by
  have hactive : s.member.state ≠ .active := by rw [h]; decide
  unfold commandJoin
  rw [h]
  exact congrArg (recordResult .accepted)
    (joinPath_of_free (s := { s with member := { s.member with clashHold := false } }) hactive halign)

theorem commandJoin_of_aligned {s : State} (h : s.member.state = .detached) (halign : s.align.state ≠ .free) :
    commandJoin s = recordResult .accepted
      { s with member := ⟨.joining, none, some 0, none, 0, false⟩, link := { s.link with beaconPoint := none } } := by
  have hactive : s.member.state ≠ .active := by rw [h]; decide
  unfold commandJoin
  rw [h]
  exact congrArg (recordResult .accepted)
    (joinPath_of_aligned (s := { s with member := { s.member with clashHold := false } }) hactive halign)

theorem commandJoin_unconfigured {s : State} (h : s.member.state = .unconfigured) :
    commandJoin s = recordResult .unconfigured s := by
  unfold commandJoin
  rw [h]

theorem commandJoin_elsewhere {s : State} (hdetached : s.member.state ≠ .detached)
    (hunconfigured : s.member.state ≠ .unconfigured) : commandJoin s = recordResult .wrongState s := by
  unfold commandJoin
  cases hm : s.member.state with
  | detached => exact absurd hm hdetached
  | unconfigured => exact absurd hm hunconfigured
  | listen | joining | active | draining | faulted => rfl

/-! #### LEAVE (R95, R97) -/

/-- A sole member in the sense of R97: alone in the current set, and with no other station in the pending plan. -/
theorem soleMember_iff {c : Image} {s : State} (hc : Configured c s) : soleMember s = true ↔
    s.plan.set = some (1#16 <<< c.station.val) ∧
      ∀ r, s.plan.pending = some r → ∀ j : Station, j ≠ c.station → inSet r.members j = false := by
  have hothers : ∀ m : StationSet, removeFrom m c.station = 0 ↔ ∀ j : Station, j ≠ c.station → inSet m j = false := by
    intro m
    rw [eq_zero_iff_inSet]
    simp only [inSet_removeFrom, Bool.and_eq_false_iff, Bool.not_eq_false', decide_eq_true_iff]
    exact forall_congr' fun j => or_comm.trans or_iff_not_imp_left
  have hsole : soleMember s = true ↔ s.plan.set = some (only c.station) ∧
      ∀ r, s.plan.pending = some r → removeFrom r.members c.station = 0 := by
    unfold soleMember
    rw [hc]
    cases s.plan.pending <;> simp
  rw [hsole]
  simp only [hothers]
  rfl

/-- What a change out of ACTIVE does to the plan records and the generator: it ends the repeats and the MARK (R119,
R151, R153). -/
theorem moveTo_of_active {s : State} (h : s.member.state = .active) (next : Membership) :
    moveTo next s = { s with member := s.member.enter next, link := s.link.enterState next,
                             plan := s.plan.leaveActive, gen := s.gen.leaveActive } := by
  rw [moveTo, if_pos h, if_pos h]

theorem commandLeave_sole {s : State} (h : s.member.state = .active) (hsole : soleMember s = true) :
    commandLeave s = recordResult .accepted (raise .left { s with
      member := s.member.enter .detached
      link := s.link.enterState .detached
      plan := s.plan.leaveActive
      gen := s.gen.leaveActive }) := by
  unfold commandLeave
  rw [h]
  dsimp only
  rw [leaveGroup, if_pos hsole, moveTo_of_active h]

/-- DRAINING withdraws no request (R24). -/
theorem commandLeave_drains {s : State} (h : s.member.state = .active) (hsole : ¬ soleMember s = true) :
    commandLeave s = recordResult .accepted { s with
      member := s.member.enter .draining
      link := s.link.requestLeave .requested
      plan := s.plan.leaveActive
      gen := s.gen.leaveActive } := by
  unfold commandLeave
  rw [h]
  dsimp only
  rw [leaveGroup, if_neg hsole, moveTo_of_active (s := { s with link := s.link.requestLeave .requested }) h]
  rfl

theorem commandLeave_joining {s : State} (h : s.member.state = .listen ∨ s.member.state = .joining) :
    commandLeave s = recordResult .accepted
      { s with member := s.member.enter .detached, link := s.link.enterState .detached } := by
  have hactive : s.member.state ≠ .active := by rcases h with h | h <;> rw [h] <;> decide
  rw [← moveTo_of_not_active hactive]
  unfold commandLeave
  rcases h with h | h <;> rw [h]

theorem commandLeave_elsewhere {s : State} (h : s.member.state = .unconfigured ∨ s.member.state = .detached ∨
    s.member.state = .draining ∨ s.member.state = .faulted) : commandLeave s = recordResult .wrongState s := by
  unfold commandLeave
  rcases h with h | h | h | h <;> rw [h]

/-- A refused command changes the last command result alone (R195). -/
theorem refused_commandEnd (b : Byte) (r : CmdResult) (s : State) :
    SameStation s (commandEnd r { s with port := commandPort b s }) ∧
      (commandEnd r { s with port := commandPort b s }).port.flags = s.port.flags ∧
      (commandEnd r { s with port := commandPort b s }).port.marks = s.port.marks :=
  ⟨sameStation_withPort (sameStation_refl s) _, rfl, rfl⟩

/-- Settles O53. -/
theorem joinAndLeaveCommandsFollowTheState : Obligations.JoinAndLeaveCommandsFollowTheState := by
  intro c s hready answers refused keeps detached sole
  have hjoin : ∀ {v r}, commandJoin { s with port := commandPort 0x01#8 s } = recordResult r v →
      exec (.join (whole [0x21#8, 0x01#8])) s = .next (commandEnd r v) := fun h =>
    next_congr (transfer_commandEnd hready h)
  have hleave : ∀ {v r}, commandLeave { s with port := commandPort 0x02#8 s } = recordResult r v →
      exec (.leave (whole [0x21#8, 0x02#8])) s = .next (commandEnd r v) := fun h =>
    next_congr (transfer_commandEnd hready h)
  obtain ⟨hbeacon, hplan, hfault, hleaveSlot, _, _⟩ := enterState_detached s.link
  have hlisten : (s.link.enterState .listen).qFault = s.link.qFault := by
    rw [enterState_of_ne _ (by decide)]
    exact withdrawFor_qFault _ _
  refine ⟨fun hm halign => ?_, fun hm halign => ?_, fun hm => ?_, fun hm hm' => ?_, fun hc hm hsole => ?_,
    fun hc hm hsole => ?_, fun hm => ?_, fun hm => ?_⟩
  · have hexec := hjoin (commandJoin_of_free (s := { s with port := commandPort 0x01#8 s }) hm halign)
    refine ⟨_, hexec, portAfter_commandEnd _ ⟨rfl, rfl⟩, rfl, rfl, rfl, rfl, ?_, rfl⟩
    exact ⟨rfl, rfl, rfl, rfl, rfl, rfl, rfl, rfl, rfl, rfl, rfl, rfl, rfl, hlisten, rfl⟩
  · have hexec := hjoin (commandJoin_of_aligned (s := { s with port := commandPort 0x01#8 s }) hm halign)
    exact ⟨_, hexec, portAfter_commandEnd _ ⟨rfl, rfl⟩, rfl, rfl, rfl, rfl,
      ⟨rfl, rfl, rfl, rfl, rfl, rfl, rfl, rfl, rfl, rfl, rfl, rfl, rfl, rfl, rfl⟩, rfl, rfl⟩
  · exact ⟨_, hjoin (commandJoin_unconfigured hm), portAfter_commandEnd _ ⟨rfl, rfl⟩, rfl, rfl, rfl,
      refused_commandEnd _ _ s⟩
  · exact ⟨_, hjoin (commandJoin_elsewhere hm hm'), portAfter_commandEnd _ ⟨rfl, rfl⟩, rfl, rfl, rfl,
      refused_commandEnd _ _ s⟩
  · have hrun := commandLeave_sole (s := { s with port := commandPort 0x02#8 s }) hm ((soleMember_iff hc).mpr hsole)
    exact ⟨_, hleave hrun, portAfter_commandEnd _ ⟨rfl, rfl⟩, rfl, rfl, rfl,
      ⟨rfl, hbeacon, hplan, hleaveSlot, rfl, rfl, rfl, rfl, rfl, rfl, rfl, rfl, rfl, rfl, rfl, rfl, rfl, hfault, rfl⟩,
      rfl⟩
  · have hrun := commandLeave_drains (s := { s with port := commandPort 0x02#8 s }) hm (mt (soleMember_iff hc).mp hsole)
    exact ⟨_, hleave hrun, portAfter_commandEnd _ ⟨rfl, rfl⟩, rfl, rfl, rfl, rfl, requestLeave_qLeave _ _,
      requestLeave_qBeacon _ _, requestLeave_qPlan _ _,
      ⟨rfl, rfl, rfl, rfl, rfl, rfl, rfl, rfl, rfl, rfl, rfl, rfl, rfl, requestLeave_qFault _ _, rfl⟩, rfl⟩
  · have hrun := commandLeave_joining (s := { s with port := commandPort 0x02#8 s }) hm
    exact ⟨_, hleave hrun, portAfter_commandEnd _ ⟨rfl, rfl⟩, rfl, rfl, rfl,
      ⟨rfl, hbeacon, hplan, hleaveSlot, rfl, rfl, rfl, rfl, rfl, rfl, rfl, rfl, rfl, rfl, rfl, rfl, rfl, hfault, rfl⟩,
      rfl⟩
  · exact ⟨_, hleave (commandLeave_elsewhere hm), portAfter_commandEnd _ ⟨rfl, rfl⟩, rfl, rfl, rfl,
      refused_commandEnd _ _ s⟩

/-! #### CLEAR FAULT and RESTART (R104, R171, R181, R182) -/

/-- The state after the first half of an accepted CLEAR FAULT: DETACHED, with the latch cleared (R171). -/
def cleared (s : State) : State :=
  { s with
    mon := s.mon.clearLatch
    member := s.member.enter .detached
    link := s.link.enterState .detached }

theorem clearLatched_cases {c : Image} {s : State} (hc : Configured c s) (hm : s.member.state = .faulted) :
    clearLatched s = if c.autoJoin && !s.member.clashHold then joinPath (cleared s) else cleared s := by
  have hactive : s.member.state ≠ .active := by rw [hm]; decide
  have hmove : moveTo .detached { s with mon := s.mon.clearLatch } = cleared s :=
    moveTo_of_not_active (s := { s with mon := s.mon.clearLatch }) hactive .detached
  have hjoins : autoJoins (cleared s) = c.autoJoin := by
    have hconfig : (cleared s).loader.config = some c := hc
    unfold autoJoins
    rw [hconfig]
  unfold clearLatched
  rw [hmove]
  dsimp only
  rw [hjoins]
  rfl

theorem cleared_not_active (s : State) : (cleared s).member.state ≠ .active := nofun

/-- An accepted CLEAR FAULT changes the monitor, the membership and the link alone (R171, R104). -/
theorem clearLatched_eq {c : Image} {s : State} (hc : Configured c s) (hm : s.member.state = .faulted) :
    clearLatched s = { s with
      mon := s.mon.clearLatch
      member := if c.autoJoin && !s.member.clashHold then
          (if s.align.state = .free then ⟨.listen, some 0, none, none, 0, false⟩
            else ⟨.joining, none, some 0, none, 0, false⟩)
        else ⟨.detached, none, none, none, 0, s.member.clashHold⟩
      link := (clearLatched s).link } := by
  rw [clearLatched_cases hc hm]
  split_ifs with hjoin halign
  · rw [Bool.and_eq_true, Bool.not_eq_true'] at hjoin
    rw [joinPath_of_free (cleared_not_active s) halign, ← hjoin.2]
    rfl
  · rw [Bool.and_eq_true, Bool.not_eq_true'] at hjoin
    rw [joinPath_of_aligned (cleared_not_active s) halign, ← hjoin.2]
    rfl
  · rfl

/-- An accepted CLEAR FAULT withdraws the BEACON and the PLAN request, and no other (R24). -/
theorem clearLatched_link {c : Image} {s : State} (hc : Configured c s) (hm : s.member.state = .faulted) :
    (clearLatched s).link.qBeacon = none ∧ (clearLatched s).link.qPlan = none ∧
      (clearLatched s).link.qFault = s.link.qFault ∧ (clearLatched s).link.qLeave = s.link.qLeave := by
  obtain ⟨hbeacon, hplan, hfault, hleave, _, _⟩ := enterState_detached s.link
  rw [clearLatched_cases hc hm]
  split_ifs with hjoin
  · by_cases halign : s.align.state = .free
    · rw [joinPath_of_free (cleared_not_active s) halign]
      dsimp only
      rw [enterState_of_ne _ (by decide), withdrawFor_qFault, withdrawFor_qLeave]
      exact ⟨withdrawFor_qBeacon _ _, withdrawFor_qPlan _ _, hfault, hleave⟩
    · rw [joinPath_of_aligned (cleared_not_active s) halign]
      exact ⟨hbeacon, hplan, hfault, hleave⟩
  · exact ⟨hbeacon, hplan, hfault, hleave⟩

/-- Settles O54. -/
theorem clearFaultAndRestartCommands : Obligations.ClearFaultAndRestartCommands := by
  intro s hready answers
  have hclear : ∀ {v r}, commandClear { s with port := commandPort 0x03#8 s } = recordResult r v →
      exec (.clearFault (whole [0x21#8, 0x03#8])) s = .next (commandEnd r v) := fun h =>
    next_congr (transfer_commandEnd hready h)
  have hstation : ∀ r, SameStation s (commandEnd r { s with port := commandPort 0x03#8 s }) := fun r =>
    sameStation_withPort (sameStation_refl s) _
  refine ⟨fun c hc hm ha hb => ?_, fun hm hline => ?_, fun hm => ?_, ?_⟩
  · have hquiet : ¬ (s.mon.a.asserted || s.mon.b.asserted) = true := by rw [ha, hb]; decide
    have hrun : commandClear { s with port := commandPort 0x03#8 s } =
        recordResult .accepted (clearLatched { s with port := commandPort 0x03#8 s }) :=
      (if_pos hm).trans (if_neg hquiet)
    obtain ⟨hbeacon, hplan, hfault, hleave⟩ := clearLatched_link (s := { s with port := commandPort 0x03#8 s }) hc hm
    have hexec := hclear hrun
    rw [clearLatched_eq (s := { s with port := commandPort 0x03#8 s }) hc hm] at hexec
    exact ⟨_, hexec, portAfter_commandEnd _ ⟨rfl, rfl⟩, rfl, rfl, rfl, rfl, rfl, rfl, rfl, rfl, hbeacon, hplan, hfault,
      hleave⟩
  · have hasserted : (s.mon.a.asserted || s.mon.b.asserted) = true := Bool.or_eq_true _ _ ▸ hline
    have hrun : commandClear { s with port := commandPort 0x03#8 s } =
        recordResult .faultActive { s with port := commandPort 0x03#8 s } :=
      (if_pos hm).trans (if_pos hasserted)
    exact ⟨_, hclear hrun, portAfter_commandEnd _ ⟨rfl, rfl⟩, rfl, rfl, rfl, rfl, rfl, hstation _⟩
  · have hrun : commandClear { s with port := commandPort 0x03#8 s } =
        recordResult .wrongState { s with port := commandPort 0x03#8 s } := if_neg hm
    exact ⟨_, hclear hrun, portAfter_commandEnd _ ⟨rfl, rfl⟩, rfl, rfl, rfl, rfl, rfl, hstation _⟩
  · exact next_congr (transfer_command hready 0x04#8)

end Sys2Proof.Machine
